-- ==== Sys2Proof/Word.lean ====
section
/-! DEFINITION. The widths of BCSH's values (00_scope.md R6, R8, R13). Every value is unsigned. -/

namespace Sys2Proof

/-- A register, data or command word: 32 bits (20_memory.md R63). -/
abbrev Word := BitVec 32

/-- A code of the Sample Source, 0 to 4095 (00_scope.md R6, SAMPLE_BITS). -/
abbrev Sample := BitVec 12

/-- One byte of host memory (20_memory.md R65). -/
abbrev Byte := BitVec 8

/-- An Output Block as eight 32-bit words (00_scope.md R6, BLOCK_BYTES). -/
abbrev Block := Vector Word 8

/-- The Sample Window's contents: N = 32 slots (00_scope.md R6). -/
abbrev Window := Vector Sample 32

end Sys2Proof
end

