-- ==== Sys2Proof/Machine/Port.lean ====
section
/-! DEFINITION. What reaches the machine from outside, as plain data: raw host words, host program
calls, and the events of the five agents (00_scope.md R9). -/

namespace Sys2Proof.Machine

/-- The operation codes of a command word, 30_encoding.md R82. -/
inductive Opcode where
  | nop | init | extractBit | extractWord | harvest | getWord
  deriving DecidableEq, Repr

/-- The mapped registers of the aperture, 10_state.md R40. -/
inductive Reg where
  | cmd | status | ctrl | intsts | result | seed | sum | cursor
  | bandLo | bandHi | lasts | rejcnt
  | out (k : BitVec 3)
  | win (i : BitVec 5)
  deriving DecidableEq, Repr

/-- A raw HOST action in one of the two formats of 30_encoding.md R80. `cmd w` is a size-4 write of
`w` to offset 0x00 read in format CMD (R81); `bus ad data` is any access, by its 11-bit descriptor
(R86), with the data word of a write. -/
inductive HostWord where
  | cmd (w : Word)
  | bus (ad : BitVec 11) (data : Word)
  deriving DecidableEq, Repr

/-- Why a raw HOST action selects no row: an illegal command word (30_encoding.md R84), or one of
the three bus errors of R87. -/
inductive DecodeError where
  | illegalCommand
  | badSize
  | misaligned
  | unmapped
  deriving DecidableEq, Repr

/-- A HOST bus access by address: `MemRead` and `MemWrite` of 00_scope.md R14, any size code of
30_encoding.md R86. -/
structure MemAccess where
  addr  : Word
  size  : BitVec 2
  write : Bool
  data  : Word
  deriving DecidableEq, Repr

/-- A call of the HOST software: the poll adapter (44_host_protocol.md R190) or the get-word
sequence (R195). Addresses and lengths of host memory are unsigned numbers (R194). -/
inductive HostCall where
  | poll (dest len : Nat)
  | getWord
  deriving DecidableEq, Repr

/-- One atomic step of an agent (00_scope.md R9, R10), or the reset input (70_reset_and_hazards.md
R270). The labels `draw` are the unconstrained draws of 00_scope.md R11 and 43_harvest.md R170. -/
inductive Event where
  /-- HOST performs one access, given as the raw word the bus carries. -/
  | host (h : HostWord)
  /-- HOST performs one access, given by its address (20_memory.md R60). -/
  | mem (a : MemAccess)
  /-- HOST software is called (44_host_protocol.md R190, R195). -/
  | call (c : HostCall)
  /-- HOST software performs its next access. -/
  | program
  /-- SEQ takes its step; ADC supplies the draw (read only in a sampling state). -/
  | seq (draw : Sample)
  /-- DISP takes its step (43_harvest.md R172). -/
  | disp
  /-- ACC completes a generation (43_harvest.md R170). -/
  | accDone (draw : Block)
  /-- ACC's unrelated AES engine completes (43_harvest.md R171). -/
  | accAesDone
  /-- ACC_AES_IE takes a value (43_harvest.md R171). -/
  | accAesIe (on : Bool)
  /-- The reset input is asserted (70_reset_and_hazards.md R270). -/
  | reset
  deriving DecidableEq, Repr, Inhabited

end Sys2Proof.Machine
end

