-- ==== Sys2Proof/Config.lean ====
section
/-! DEFINITION. The implementation parameters of 00_scope.md R6 and R7, and the free values: opaque
constants, of which nothing can be proved. -/

namespace Sys2Proof

/-- P_CLEAR_ORDER (00_scope.md R7): the order of the completion-flag clear and the start pulse. -/
inductive ClearOrder where
  | clearThenStart
  | startThenClear
  deriving DecidableEq, Repr

/-- P_COND (00_scope.md R7): which optional conditioner units exist (R135). -/
inductive CondUnits where
  | none
  | vn
  | rct
  | vnRct
  deriving DecidableEq, Repr

/-- The parameters of 00_scope.md R7 as plain data. A machine carries one such value and no step
changes it (entry 3). PRNG_FN, a function, is `Config.prngFn`; whether it is given stands here. -/
structure Params where
  /-- P_BASE, 256-byte aligned (20_memory.md R60). -/
  base : Word
  /-- P_BAND_CENTER, 0 to 4095. -/
  bandCenter : Sample
  /-- P_BAND_TOL, 50 by default (R6). -/
  bandTol : Sample
  /-- P_MODE256_CODE, the code of the accelerator's 256-bit mode (30_encoding.md R90). -/
  mode256Code : Nat
  /-- P_CLEAR_ORDER (43_harvest.md R165, R166). -/
  clearOrder : ClearOrder
  /-- P_RETRY_LIMIT: `none` or a bound of at least 1 (40_bias_corrector.md R105). -/
  retryLimit : Option Nat
  /-- P_COND (41_aggregator_conditioner.md R135). -/
  cond : CondUnits
  /-- P_RCT_CUTOFF, 2 to 0xFFFF (41_aggregator_conditioner.md R139). -/
  rctCutoff : Nat
  /-- Whether the model is given PRNG_FN (43_harvest.md R170). -/
  prngFnGiven : Bool
  deriving DecidableEq, Repr

/-- The upper 24 bits of P_BASE, OPEN; the lower 8 are 0 because P_BASE is 256-byte aligned. -/
opaque Config.baseHigh : BitVec 24

/-- P_BAND_CENTER, OPEN (91_not_in_source.md N3). -/
opaque Config.bandCenter : Sample

/-- P_MODE256_CODE, OPEN (91_not_in_source.md N13). -/
opaque Config.mode256Code : Nat

/-- P_RCT_CUTOFF, OPEN, before its bound from below (`Config.params` applies it). -/
opaque Config.rctCutoffCode : BitVec 16

/-- PRNG_FN, the optional law of the accelerator's output (43_harvest.md R170): a free function. -/
opaque Config.prngFn : Word → Block

/-- The value ACC_AES_IE happens to have at launch: any (70_reset_and_hazards.md R280). -/
opaque Config.launchAesIe : Bool

/-- The values ACC_OUT[0..7] happen to have at launch: any (70_reset_and_hazards.md R280). -/
opaque Config.launchAccOut : Block

/-- The schedule and the draws, once the events listed in the state are used up: any interleaving
and any draws (93_implementation_defined.md I1 to I4, I11; entry 1). -/
opaque Config.schedule : Nat → Machine.Event

/-- The parameters of the machine `State.reset` starts: the OPEN ones are free, the others have the
defaults 00_scope.md R7 states. -/
def Config.params : Params where
  base := Config.baseHigh ++ 0#8
  bandCenter := Config.bandCenter
  bandTol := 50#12
  mode256Code := Config.mode256Code
  clearOrder := .clearThenStart
  retryLimit := Option.none
  cond := .none
  rctCutoff := max 2 Config.rctCutoffCode.toNat
  prngFnGiven := false

end Sys2Proof
end

