-- ==== Sys2Proof/Machine/State.lean ====
section
/-! DEFINITION. The state of the machine as plain data: BCSH (70_reset_and_hazards.md R271), the
accelerator state the model must carry (10_state.md R43), the HOST software (44_host_protocol.md),
the parameters, and what is still to come; and its value at reset. -/

namespace Sys2Proof.Machine

/-- STATE, the sequencer state (10_state.md R32). Codes 11 to 31 are never reached and have no
constructor (entry 14). -/
inductive SeqState where
  | idle | initFill | initDiscard | xbit | xword
  | hArm | hSeed | hStart | hClear | hWait | hRead
  deriving DecidableEq, Repr

/-- The causes STATUS.ERR_CODE names (60_exceptions.md R233). -/
inductive ErrCause where
  | none | illegal | busy | notInit | retryLimit
  deriving DecidableEq, Repr

/-- The event `Start(seed, mode, reseed)` on the accelerator port (30_encoding.md R90). -/
structure StartEvent where
  seed   : Word
  mode   : Nat
  reseed : Bool
  deriving DecidableEq, Repr

/-- BCSH: every piece of state of 70_reset_and_hazards.md R271, under its own name. -/
structure Bcsh where
  /-- WIN[0..31], the Sample Window (10_state.md R21). -/
  win : Window
  /-- SUM, the running sum (R22). -/
  sum : BitVec 17
  /-- CURSOR, the next slot to evict (R23). -/
  cursor : BitVec 5
  /-- INIT_DONE (R24). -/
  initDone : Bool
  /-- SR, the seed shift register, read as SEED (R25). -/
  sr : Word
  /-- BITCNT, the conditioned bits already in SR (R26). -/
  bitcnt : BitVec 6
  /-- RESULT (R27). -/
  result : Word
  /-- OUT[0..7], the Output Block (R28). -/
  out : Block
  /-- BAND_LO (R29). -/
  bandLo : Sample
  /-- BAND_HI (R29). -/
  bandHi : Sample
  /-- LASTS, the last accepted sample (R30). -/
  lasts : Sample
  /-- REJCNT, the rejected samples since reset, saturating (R30). -/
  rejcnt : Word
  /-- RETRY, the consecutive rejections, saturating (R31). -/
  retry : Word
  /-- STATE (R32). -/
  state : SeqState
  /-- OP, the opcode of the command in progress (R34). -/
  op : BitVec 3
  /-- FILLIDX, the slots already filled (R35). -/
  fillIdx : BitVec 6
  /-- PRNG_DONE, the completion flag (R37). -/
  prngDone : Bool
  /-- ACC_CLK_EN, the accelerator's clock enable (R38). -/
  accClkEn : Bool
  /-- ACC_IE, the accelerator's completion-interrupt enable (R38). -/
  accIe : Bool
  /-- INTSTS.DONEIF (R39). -/
  doneIf : Bool
  /-- INTSTS.ERRIF (R39). -/
  errIf : Bool
  /-- INTSTS.HLTHIF (R39). -/
  hlthIf : Bool
  /-- INTSTS.AESIF (R39). -/
  aesIf : Bool
  /-- CTRL.DONEIE (R39). -/
  doneIe : Bool
  /-- CTRL.ERRIE (R39). -/
  errIe : Bool
  /-- CTRL.HLTHIE (R39). -/
  hlthIe : Bool
  /-- CTRL.AESIE (R39). -/
  aesIe : Bool
  /-- STATUS.ERR_CODE (R39; 60_exceptions.md R233). -/
  errCode : BitVec 4
  /-- CTRL.VNEN (R40; 41_aggregator_conditioner.md R135). -/
  vnen : Bool
  /-- CTRL.RCTEN (R40; R135). -/
  rcten : Bool
  /-- VNPH, the first bit of a pair has been taken (R41). -/
  vnph : Bool
  /-- VNB1, that first bit (R41). -/
  vnb1 : Bool
  /-- RCT_LAST, the last sample observed (R42). -/
  rctLast : Sample
  /-- RCT_CNT, the length of the run of equal samples, saturating (R42). -/
  rctCnt : BitVec 16
  deriving DecidableEq, Repr

/-- The accelerator as BCSH sees it (10_state.md R43), with the last Start it received, whose seed
43_harvest.md R170 reads. -/
structure Acc where
  /-- ACC_BUSY, a generation is in progress. -/
  busy : Bool
  /-- ACC_PRNG_IF, the engine's completion-pending bit. -/
  prngIf : Bool
  /-- ACC_AES_IF, the unrelated engine's pending bit. -/
  aesIf : Bool
  /-- ACC_AES_IE, its interrupt enable, driven from outside BCSH. -/
  aesIe : Bool
  /-- ACC_OUT[0..7], the output words. -/
  out : Block
  /-- The last Start event, none before the first (entry 16). -/
  start : Option StartEvent
  deriving DecidableEq, Repr

/-- Host byte memory as a list of cells in canonical form: addresses strictly rising. A byte that
nothing has written is not listed and has no value (entry 17), so no listed cell can equal what an
unlisted address reads as. -/
abbrev Memory := List Host.Cell

/-- The canonical form of `Memory`: addresses strictly rising. -/
def Memory.wf : Memory → Bool
  | [] => true
  | [_] => true
  | a :: b :: m => decide (a.1 < b.1) && Memory.wf (b :: m)

/-- Where the HOST software stands: between calls, in a place of `poll` (44_host_protocol.md R192),
or in a place of the get-word sequence (R195). Each place but `idle` is one access. -/
inductive HostPc where
  | idle
  | pollStatus | pollInit | pollInitWait | pollHarvest | pollHarvestWait | pollRead
  | gwIssue | gwWait | gwRead
  deriving DecidableEq, Repr

/-- The HOST software's variables (44_host_protocol.md R190 to R195) and the memory it writes. -/
structure HostSw where
  /-- Where the program stands. -/
  pc : HostPc
  /-- The destination buffer's address. -/
  dest : Nat
  /-- The requested length. -/
  len : Nat
  /-- `off`, the bytes delivered so far (R192). -/
  off : Nat
  /-- `k`, the OUT word read next (R192). -/
  k : BitVec 3
  /-- `tmp`, the temporary block (R192). -/
  tmp : Vector Byte 32
  /-- `actual_len` of the last finished poll (R190). -/
  actualLen : Nat
  /-- The last poll has returned success (R190). -/
  success : Bool
  /-- The word the last get-word sequence returned (R195). -/
  word : Word
  /-- Host byte memory. -/
  mem : Memory
  deriving DecidableEq, Repr

/-- What the last HOST access got back on the bus (entry 5). -/
inductive HostResp where
  /-- No access yet since reset. -/
  | idle
  /-- A read completed with this value (45_register_access.md R200). -/
  | data (w : Word)
  /-- A write completed, its effect or its being ignored as its row says (20_memory.md R66). -/
  | done
  /-- `BusError`: nothing but the fact of the error (60_exceptions.md R236). -/
  | busError
  /-- The address lies outside the aperture: BCSH was not reached (20_memory.md R62). -/
  | outside
  deriving DecidableEq, Repr

/-- The state of the machine. -/
structure State where
  /-- The parameters (00_scope.md R7), which no step changes (entry 3). -/
  par : Params
  /-- BCSH. -/
  b : Bcsh
  /-- The accelerator. -/
  acc : Acc
  /-- PREM_ADC_CONFIGURED (70_reset_and_hazards.md R280), which no step changes (entry 9). -/
  adcConfigured : Bool
  /-- The HOST software. -/
  sw : HostSw
  /-- The answer of the last HOST access (entry 5). -/
  resp : HostResp
  /-- The events to be taken, oldest first (entry 1). -/
  inbox : List Event
  /-- How many events have been taken from `Config.schedule` (entry 1). -/
  tick : Nat
  deriving DecidableEq, Repr

/-- No step of this machine faults: BCSH takes no trap (60_exceptions.md R247), a bus error is an
answer to HOST after which BCSH goes on (R236), and nothing else raises an exception (R237). -/
inductive Fault where
  deriving DecidableEq, Repr

/-- Why a step is refused. -/
inductive Refusal where
  /-- An instruction without a meaning yet. Raised by no arm of `exec`. Safe: no next state. -/
  | notModelled (mnemonic : String)
  /-- SEQ's H_START while ACC_BUSY = 1, of which the spec says nothing (93_implementation_defined.md
  I9, "refuse"). Raised by the SEQ step in H_START. Safe: no next state. -/
  | startWhileAccBusy
  /-- A sample taken while the Sample Source is not configured (93_implementation_defined.md I10,
  "refuse"). Raised by the SEQ step in a sampling state. Safe: no next state. -/
  | adcNotConfigured
  deriving DecidableEq, Repr

/-- The reset values of BCSH (70_reset_and_hazards.md R271): 0 everywhere but in the band, which
the parameters give (10_state.md R29). -/
def Bcsh.reset (p : Params) : Bcsh where
  win := Vector.replicate 32 0#12
  sum := 0
  cursor := 0
  initDone := false
  sr := 0
  bitcnt := 0
  result := 0
  out := Vector.replicate 8 0#32
  bandLo := BitVec.ofNat 12 (p.bandCenter.toNat - p.bandTol.toNat)
  bandHi := BitVec.ofNat 12 (min 4095 (p.bandCenter.toNat + p.bandTol.toNat))
  lasts := 0
  rejcnt := 0
  retry := 0
  state := .idle
  op := 0
  fillIdx := 0
  prngDone := false
  accClkEn := false
  accIe := false
  doneIf := false
  errIf := false
  hlthIf := false
  aesIf := false
  doneIe := false
  errIe := false
  hlthIe := false
  aesIe := false
  errCode := 0
  vnen := false
  rcten := false
  vnph := false
  vnb1 := false
  rctLast := 0
  rctCnt := 0

/-- The accelerator at launch: idle (PREM_ACC_IDLE of 70_reset_and_hazards.md R280); ACC_AES_IE and
ACC_OUT at any value (entry 10). -/
def Acc.launch : Acc where
  busy := false
  prngIf := false
  aesIf := false
  aesIe := Config.launchAesIe
  out := Config.launchAccOut
  start := none

/-- The HOST software before its first call (entry 17). -/
def HostSw.launch : HostSw where
  pc := .idle
  dest := 0
  len := 0
  off := 0
  k := 0
  tmp := Vector.replicate 32 0#8
  actualLen := 0
  success := false
  word := 0
  mem := []

/-- A machine right after reset, with parameters `p`: BCSH as R271 says, the environment as the
launch premises of R280 say. -/
def State.resetWith (p : Params) : State where
  par := p
  b := Bcsh.reset p
  acc := Acc.launch
  adcConfigured := true
  sw := HostSw.launch
  resp := .idle
  inbox := []
  tick := 0

/-- The machine right after reset. -/
def State.reset : State := State.resetWith Config.params

end Sys2Proof.Machine
end

