-- ==== Sys2Proof/Machine/Flags.lean ====
section
/-! DEFINITION. Flags, error codes and interrupt lines: every flag computation the spec gives. -/

namespace Sys2Proof

/-- The von Neumann extractor exists (41_aggregator_conditioner.md R135). -/
def Params.hasVn (p : Params) : Bool :=
  match p.cond with
  | .none => false
  | .vn => true
  | .rct => false
  | .vnRct => true

/-- The repetition-count test exists (41_aggregator_conditioner.md R135). -/
def Params.hasRct (p : Params) : Bool :=
  match p.cond with
  | .none => false
  | .vn => false
  | .rct => true
  | .vnRct => true

end Sys2Proof

namespace Sys2Proof.Machine

/-- The 4-bit code of an error cause (60_exceptions.md R233). -/
def ErrCause.code : ErrCause → BitVec 4
  | .none => 0
  | .illegal => 1
  | .busy => 2
  | .notInit => 3
  | .retryLimit => 4

/-- The 5-bit code of a sequencer state (10_state.md R32). -/
def SeqState.code : SeqState → BitVec 5
  | .idle => 0
  | .initFill => 1
  | .initDiscard => 2
  | .xbit => 3
  | .xword => 4
  | .hArm => 5
  | .hSeed => 6
  | .hStart => 7
  | .hClear => 8
  | .hWait => 9
  | .hRead => 10

/-- STATUS.BUSY is 1 iff STATE is not IDLE (10_state.md R36). -/
def Bcsh.busy (b : Bcsh) : Bool := decide (b.state ≠ .idle)

/-- The accelerator interrupt line (10_state.md R44). -/
def State.accIrq (s : State) : Bool :=
  (s.acc.prngIf && s.b.accIe) || (s.acc.aesIf && s.acc.aesIe)

/-- The host interrupt output (10_state.md R44, 60_exceptions.md R244). -/
def Bcsh.irqOut (b : Bcsh) : Bool :=
  (b.doneIf && b.doneIe) || (b.errIf && b.errIe) || (b.hlthIf && b.hlthIe) || (b.aesIf && b.aesIe)

/-- Write-one-to-clear of INTSTS (45_register_access.md R204). -/
def Bcsh.clearFlags (w : Word) (b : Bcsh) : Bcsh :=
  { b with
    doneIf := b.doneIf && !w.getLsbD 0
    errIf := b.errIf && !w.getLsbD 1
    hlthIf := b.hlthIf && !w.getLsbD 2
    aesIf := b.aesIf && !w.getLsbD 3 }

end Sys2Proof.Machine
end

