-- ==== Sys2Proof/Machine/Operands.lean ====
section
/-! DEFINITION. Register values as HOST reads them, and the fields of a written word: the bit
positions of 10_state.md R40, every undefined bit 0 (45_register_access.md R200). -/

namespace Sys2Proof.Machine

/-- One bit of a register at a bit position. -/
def bitAt (v : Bool) (n : Nat) : Word := (BitVec.ofBool v).setWidth 32 <<< n

/-- The value of STATUS (45_register_access.md R211). -/
def statusValue (b : Bcsh) : Word :=
  b.state.code.setWidth 32 <<< 16 ||| b.errCode.setWidth 32 <<< 8 ||| bitAt b.accIe 4
    ||| bitAt b.accClkEn 3 ||| bitAt b.prngDone 2 ||| bitAt b.initDone 1 ||| bitAt b.busy 0

/-- The value of CTRL (45_register_access.md R212); VNEN and RCTEN read 0 where their unit is
absent (41_aggregator_conditioner.md R135). -/
def ctrlValue (p : Params) (b : Bcsh) : Word :=
  bitAt (p.hasRct && b.rcten) 5 ||| bitAt (p.hasVn && b.vnen) 4 ||| bitAt b.aesIe 3
    ||| bitAt b.hlthIe 2 ||| bitAt b.errIe 1 ||| bitAt b.doneIe 0

/-- The value of INTSTS (45_register_access.md R213). -/
def intstsValue (b : Bcsh) : Word :=
  bitAt b.aesIf 3 ||| bitAt b.hlthIf 2 ||| bitAt b.errIf 1 ||| bitAt b.doneIf 0

/-- A 12-bit field read as a word (00_scope.md R13, `zext_32`). -/
def sampleValue (v : Sample) : Word := v.setWidth 32

/-- The 12-bit field [11:0] of a written word (45_register_access.md R205, R206). -/
def sampleField (w : Word) : Sample := w.extractLsb' 0 12

/-- Byte j of a word, little-endian (20_memory.md R65): bits 8*j+7 down to 8*j. -/
def wordByte (w : Word) (j : Nat) : Byte := w.extractLsb' (8 * j) 8

/-- The four bytes of a word in little-endian order (20_memory.md R65). -/
def wordBytes (w : Word) : List Byte := [wordByte w 0, wordByte w 1, wordByte w 2, wordByte w 3]

/-- A slot of the window, by a 5-bit index. -/
def windowSlot (v : Window) (i : BitVec 5) : Sample := v[i.toNat]'i.isLt

/-- The window with one slot replaced. -/
def windowPut (v : Window) (i : BitVec 5) (d : Sample) : Window := v.set i.toNat d i.isLt

/-- A word of a block, by a 3-bit index. -/
def blockWord (v : Block) (k : BitVec 3) : Word := v[k.toNat]'k.isLt

/-- `Σ WIN` (10_state.md R22), as a number. -/
def windowSum (v : Window) : Nat := (v.toList.map BitVec.toNat).sum

end Sys2Proof.Machine
end

