-- ==== Sys2Proof/Machine/Ops.lean ====
section
/-! DEFINITION. The operations the meanings share: what an error does, how a command starts, ends
and aborts, what HOST gets back, and host byte memory. BCSH takes no trap and returns from none
(60_exceptions.md R247, R248); `Bcsh.cmdError` is its one way to raise an error. -/

namespace Sys2Proof.Machine

/-- `sat32(x + 1)` (40_bias_corrector.md R110). -/
def satInc32 (x : Word) : Word := if x = 0xFFFFFFFF#32 then x else x + 1#32

/-- `min(x + 1, 0xFFFF)` (41_aggregator_conditioner.md R139). -/
def satInc16 (x : BitVec 16) : BitVec 16 := if x = 0xFFFF#16 then x else x + 1#16

/-- `CmdError(code)`: ERR_CODE and ERRIF, nothing else (60_exceptions.md R234). -/
def Bcsh.cmdError (c : ErrCause) (b : Bcsh) : Bcsh :=
  { b with errCode := c.code, errIf := true }

/-- `complete()` (45_register_access.md R208). -/
def Bcsh.complete (b : Bcsh) : Bcsh :=
  { b with doneIf := true, state := .idle, op := 0, bitcnt := 0, fillIdx := 0, vnph := false }

/-- `abort(code)` (45_register_access.md R209). -/
def Bcsh.abort (c : ErrCause) (b : Bcsh) : Bcsh :=
  { b with
    errCode := c.code, errIf := true, accIe := false, sr := 0, bitcnt := 0, fillIdx := 0
    vnph := false, state := .idle, op := 0 }

/-- The start of a seed word (41_aggregator_conditioner.md R131). -/
def Bcsh.wordStart (b : Bcsh) : Bcsh := { b with sr := 0, bitcnt := 0 }

/-- What every accepted command that starts SEQ does (45_register_access.md R201), with its opcode
and its start state. -/
def Bcsh.startCommand (opc : BitVec 3) (st : SeqState) (b : Bcsh) : Bcsh :=
  { b with errCode := ErrCause.none.code, retry := 0, vnph := false, op := opc, state := st }

/-- The acceptance of INIT, as the pseudocode of 42_init.md R150 has it. An INIT after initialization
starts nothing: it sets ERR_CODE to 0 and completes, and RETRY is left ("touches nothing but DONEIF
and ERR_CODE"; R201 is read with it, DEDUCED, entry 12). -/
def Bcsh.acceptInit (b : Bcsh) : Bcsh :=
  if b.initDone then Bcsh.complete { b with errCode := ErrCause.none.code }
  else { b.startCommand 1 .initFill with fillIdx := 0 }

/-- The acceptance of EXTRACT_BIT (40_bias_corrector.md R115). -/
def Bcsh.acceptExtractBit (b : Bcsh) : Bcsh := b.startCommand 2 .xbit

/-- The acceptance of EXTRACT_WORD (41_aggregator_conditioner.md R142). -/
def Bcsh.acceptExtractWord (b : Bcsh) : Bcsh := (b.startCommand 3 .xword).wordStart

/-- The acceptance of HARVEST (43_harvest.md R161). -/
def Bcsh.acceptHarvest (b : Bcsh) : Bcsh := b.startCommand 4 .hArm

/-- The acceptance of GET_WORD (43_harvest.md R175). -/
def Bcsh.acceptGetWord (b : Bcsh) : Bcsh :=
  if b.initDone then b.startCommand 5 .hArm
  else { b.startCommand 5 .initFill with fillIdx := 0 }

/-- The checks on a legal command that is not NOP, in the order of 45_register_access.md R201: BUSY,
then (for the commands that need it) NOT_INIT; then its acceptance. -/
def Bcsh.issue (needsInit : Bool) (accept : Bcsh → Bcsh) (b : Bcsh) : Bcsh :=
  if b.busy then b.cmdError .busy
  else if needsInit && !b.initDone then b.cmdError .notInit
  else accept b

/-- A HOST access that ends with `r` on the bus and leaves BCSH as `b`. -/
def State.answer (r : HostResp) (b : Bcsh) (s : State) : State := { s with b := b, resp := r }

/-- A read row: the value goes to HOST, no state of BCSH changes (45_register_access.md R200). -/
def State.answerRead (w : Word) (s : State) : State := s.answer (.data w) s.b

/-- A write row: it completes, with the effect `f` on BCSH. -/
def State.answerWrite (f : Bcsh → Bcsh) (s : State) : State := s.answer .done (f s.b)

/-- A write to a read-only register: it completes and is ignored (20_memory.md R66). -/
def State.answerIgnored (s : State) : State := s.answer .done s.b

/-- `BusError`: an error response, no state change (60_exceptions.md R236). -/
def State.answerBusError (s : State) : State := s.answer .busError s.b

/-- The reset input (70_reset_and_hazards.md R270 to R272): BCSH takes its reset state, the
accelerator and the rest of the environment stay as they stand (entry 11). -/
def State.assertReset (s : State) : State := s.answer .idle (Bcsh.reset s.par)

/-- A byte of host memory, if anything has written it. -/
def Memory.read : Memory → Nat → Option Byte
  | [], _ => none
  | c :: m, a => if c.1 = a then some c.2 else Memory.read m a

/-- A byte written to host memory, the canonical form kept. -/
def Memory.write : Memory → Nat → Byte → Memory
  | [], a, v => [(a, v)]
  | c :: m, a, v =>
    if a < c.1 then (a, v) :: c :: m
    else if a = c.1 then (a, v) :: m
    else c :: Memory.write m a v

/-- Bytes written to host memory from an address up, the first at the lowest. -/
def Memory.writeBytes : Memory → Nat → List Byte → Memory
  | m, _, [] => m
  | m, a, v :: vs => Memory.writeBytes (Memory.write m a v) (a + 1) vs

end Sys2Proof.Machine
end

