-- ==== Sys2Proof/Machine/Conditioner.lean ====
section
/-! DEFINITION. The optional Entropy Conditioner (41_aggregator_conditioner.md R135 to R141). -/

namespace Sys2Proof.Machine

/-- The run length after an accepted sample (41_aggregator_conditioner.md R139). -/
def rctNext (d : Sample) (b : Bcsh) : BitVec 16 :=
  if b.rctCnt ≠ 0 ∧ d = b.rctLast then satInc16 b.rctCnt else 1

/-- `rct_observe(s)` (41_aggregator_conditioner.md R139): nothing where the unit is absent (R135) or
disabled. -/
def rctObserve (p : Params) (d : Sample) (b : Bcsh) : Bcsh :=
  if p.hasRct && b.rcten then
    { b with
      rctCnt := rctNext d b
      rctLast := d
      hlthIf := b.hlthIf || decide (p.rctCutoff ≤ (rctNext d b).toNat) }
  else b

/-- The state `cond_in(b)` leaves (41_aggregator_conditioner.md R136): a pair that has started
finishes whatever VNEN says; a new pair starts only with VNEN = 1. -/
def condState (p : Params) (bit : Bool) (b : Bcsh) : Bcsh :=
  if p.hasVn then
    if b.vnph then { b with vnph := false }
    else if b.vnen then { b with vnb1 := bit, vnph := true }
    else b
  else b

/-- The bit `cond_in(b)` returns, if it returns one (41_aggregator_conditioner.md R135, R136): the
first bit of an unequal pair; the bit itself where the extractor is absent or disabled. -/
def condBit (p : Params) (bit : Bool) (b : Bcsh) : Option Bool :=
  if p.hasVn then
    if b.vnph then (if b.vnb1 = bit then none else some b.vnb1)
    else if b.vnen then none
    else some bit
  else some bit

end Sys2Proof.Machine
end

