-- ==== Sys2Proof/Machine/Corrector.lean ====
section
/-! DEFINITION. The Bias Corrector, the Seed Aggregator and the window's initialization: the steps
SEQ takes in a sampling state (40_bias_corrector.md, 41_aggregator_conditioner.md, 42_init.md). -/

namespace Sys2Proof.Machine

/-- The band test, both bounds inclusive, unsigned (40_bias_corrector.md R103). -/
def inBand (b : Bcsh) (d : Sample) : Bool := decide (b.bandLo ≤ d) && decide (d ≤ b.bandHi)

/-- The window average, SUM[16:5] (40_bias_corrector.md R107). -/
def average (b : Bcsh) : Sample := b.sum.extractLsb' 5 12

/-- The debiased bit: 1 iff the average is at least the sample (40_bias_corrector.md R108). -/
def debiasedBit (b : Bcsh) (d : Sample) : Bool := decide (d ≤ average b)

/-- SUM with one slot's old value replaced by a new one (40_bias_corrector.md R109). -/
def sumReplace (sum : BitVec 17) (old new : Sample) : BitVec 17 :=
  sum - old.setWidth 17 + new.setWidth 17

/-- Evict, insert, advance the cursor modulo 32 (40_bias_corrector.md R109). -/
def evictInsert (d : Sample) (b : Bcsh) : Bcsh :=
  { b with
    win := windowPut b.win b.cursor d
    sum := sumReplace b.sum (windowSlot b.win b.cursor) d
    cursor := b.cursor + 1 }

/-- P_RETRY_LIMIT is a bound and RETRY has reached it (40_bias_corrector.md R105). -/
def retryLimitReached (p : Params) (retry : Word) : Bool :=
  match p.retryLimit with
  | none => false
  | some l => decide (l ≤ retry.toNat)

/-- The counters after a rejected sample (40_bias_corrector.md R104). -/
def countRejection (b : Bcsh) : Bcsh :=
  { b with rejcnt := satInc32 b.rejcnt, retry := satInc32 b.retry }

/-- The rejection of a sample, with the retry bound (40_bias_corrector.md R104, R105). -/
def reject (p : Params) (b : Bcsh) : Bcsh :=
  if retryLimitReached p (countRejection b).retry then (countRejection b).abort .retryLimit
  else countRejection b

/-- `end_of_init()` (42_init.md R153). -/
def endOfInit (b : Bcsh) : Bcsh :=
  if b.op = 1 then Bcsh.complete { b with initDone := true }
  else if b.op = 5 then { b with initDone := true, state := .hArm }
  else { b with initDone := true }

/-- `word_done()` (41_aggregator_conditioner.md R133), by state. -/
def wordDone (b : Bcsh) : Bcsh :=
  match b.state with
  | .initDiscard => endOfInit b.wordStart
  | .xword => Bcsh.complete { b with result := b.sr, sr := 0, bitcnt := 0 }
  | .hSeed => { b with bitcnt := 0, state := .hStart }
  | _ => b

/-- The shift-in of a conditioned bit, the newest in bit 0 (41_aggregator_conditioner.md R132). -/
def shiftIn (c : Bool) (b : Bcsh) : Bcsh :=
  { b with sr := b.sr <<< 1 ||| (BitVec.ofBool c).setWidth 32, bitcnt := b.bitcnt + 1 }

/-- Shift-in and, on the 32nd bit, the word's completion (41_aggregator_conditioner.md R132). -/
def shiftBit (c : Bool) (b : Bcsh) : Bcsh :=
  if (shiftIn c b).bitcnt = 32 then wordDone (shiftIn c b) else shiftIn c b

/-- `deliver(c)` (41_aggregator_conditioner.md R137): in XBIT the end of EXTRACT_BIT
(40_bias_corrector.md R115), in the three word states the shift-in. It is called in no other. -/
def deliver (c : Bool) (b : Bcsh) : Bcsh :=
  match b.state with
  | .xbit => Bcsh.complete { b with result := (BitVec.ofBool c).setWidth 32 }
  | .initDiscard => shiftBit c b
  | .xword => shiftBit c b
  | .hSeed => shiftBit c b
  | _ => b

/-- What acceptance of a sample does before the comparator (40_bias_corrector.md R106). -/
def observe (p : Params) (d : Sample) (b : Bcsh) : Bcsh :=
  rctObserve p d { b with retry := 0, lasts := d }

/-- The part of `corrector_step` after the band test (40_bias_corrector.md R106 to R110): observe,
compare with the average as it stood, evict and insert, condition, deliver. -/
def acceptSample (p : Params) (d : Sample) (b : Bcsh) : Bcsh :=
  let b1 := observe p d b
  let bit := debiasedBit b1 d
  let b2 := evictInsert d b1
  match condBit p bit b2 with
  | none => condState p bit b2
  | some c => deliver c (condState p bit b2)

/-- `corrector_step(s)` (40_bias_corrector.md R110). -/
def correctorStep (p : Params) (d : Sample) (b : Bcsh) : Bcsh :=
  if inBand b d then acceptSample p d b else reject p b

/-- The slot FILLIDX names: its low five bits, all there is below 32 (entry 14). -/
def fillSlot (b : Bcsh) : BitVec 5 := b.fillIdx.extractLsb' 0 5

/-- One fill sample placed, with no band test (42_init.md R151). -/
def fillPut (d : Sample) (b : Bcsh) : Bcsh :=
  { b with
    win := windowPut b.win (fillSlot b) d
    sum := sumReplace b.sum (windowSlot b.win (fillSlot b)) d
    fillIdx := b.fillIdx + 1 }

/-- `fill_step(s)` (42_init.md R151). -/
def fillStep (d : Sample) (b : Bcsh) : Bcsh :=
  if (fillPut d b).fillIdx = 32 then
    Bcsh.wordStart { fillPut d b with cursor := 0, fillIdx := 0, state := .initDiscard }
  else fillPut d b

end Sys2Proof.Machine
end

