-- ==== Sys2Proof/Machine/Sequencer.lean ====
section
/-! DEFINITION. SEQ's steps (10_state.md R33): the sampling states, the harvest states
(43_harvest.md R163 to R168), and the states in which SEQ has no step. -/

namespace Sys2Proof.Machine

/-- The sampling states (10_state.md R33). -/
def SeqState.sampling : SeqState → Bool
  | .initFill => true
  | .initDiscard => true
  | .xbit => true
  | .xword => true
  | .hSeed => true
  | _ => false

/-- SEQ has a step (10_state.md R33, 43_harvest.md R167): always but in IDLE, and in H_WAIT only
with PRNG_DONE = 1. -/
def Bcsh.seqEnabled (b : Bcsh) : Bool :=
  match b.state with
  | .idle => false
  | .hWait => b.prngDone
  | _ => true

/-- H_ARM (43_harvest.md R163). -/
def hArmStep (b : Bcsh) : Bcsh :=
  Bcsh.wordStart { b with accClkEn := true, accIe := true, state := .hSeed }

/-- The event SEQ emits in H_START (30_encoding.md R90, 43_harvest.md R165). -/
def startEvent (s : State) : StartEvent := ⟨s.b.sr, s.par.mode256Code, true⟩

/-- What the accelerator does with a Start (43_harvest.md R169). -/
def Acc.accept (ev : StartEvent) (a : Acc) : Acc := { a with busy := true, start := some ev }

/-- BCSH's side of H_START (43_harvest.md R165), for each P_CLEAR_ORDER. It clears PRNG_DONE and not
ACC_PRNG_IF: a stale completion still pending here can end the wait (DEDUCED, entry 20). -/
def hStartBcsh (p : Params) (b : Bcsh) : Bcsh :=
  match p.clearOrder with
  | .clearThenStart => { b with prngDone := false, sr := 0, state := .hWait }
  | .startThenClear => { b with sr := 0, state := .hClear }

/-- H_START (43_harvest.md R165). A Start while ACC_BUSY = 1 is refused: the spec says nothing of it
(93_implementation_defined.md I9; entry 8). -/
def hStartStep (s : State) : Host.Outcome State Fault Refusal :=
  if s.acc.busy then .refused .startWhileAccBusy
  else .next { s with b := hStartBcsh s.par s.b, acc := s.acc.accept (startEvent s) }

/-- H_CLEAR (43_harvest.md R166). -/
def hClearStep (b : Bcsh) : Bcsh := { b with prngDone := false, state := .hWait }

/-- H_WAIT (43_harvest.md R167): a step only with PRNG_DONE = 1. -/
def hWaitStep (b : Bcsh) : Bcsh := if b.prngDone then { b with state := .hRead } else b

/-- H_READ (43_harvest.md R168): the whole block in one step, RESULT for GET_WORD, the interrupt
disabled, the command complete. -/
def hReadStep (accOut : Block) (b : Bcsh) : Bcsh :=
  Bcsh.complete
    { b with
      out := accOut
      accIe := false
      result := if b.op = 5 then blockWord accOut 0 else b.result }

/-- SEQ's step labelled by the draw `d` (00_scope.md R11); without a step the machine stays as it is
(entry 6). A sampling state needs a configured Sample Source (entry 9). -/
def seqStep (d : Sample) (s : State) : Host.Outcome State Fault Refusal :=
  if s.b.state.sampling && !s.adcConfigured then .refused .adcNotConfigured
  else match s.b.state with
    | .idle => .next s
    | .initFill => .next { s with b := fillStep d s.b }
    | .initDiscard => .next { s with b := correctorStep s.par d s.b }
    | .xbit => .next { s with b := correctorStep s.par d s.b }
    | .xword => .next { s with b := correctorStep s.par d s.b }
    | .hArm => .next { s with b := hArmStep s.b }
    | .hSeed => .next { s with b := correctorStep s.par d s.b }
    | .hStart => hStartStep s
    | .hClear => .next { s with b := hClearStep s.b }
    | .hWait => .next { s with b := hWaitStep s.b }
    | .hRead => .next { s with b := hReadStep s.acc.out s.b }

end Sys2Proof.Machine
end

