-- ==== Sys2Proof/Machine/Agents.lean ====
section
/-! DEFINITION. The Interrupt Dispatcher (43_harvest.md R172, R173) and the accelerator as an
environment agent (R169 to R171). -/

namespace Sys2Proof.Machine

/-- DISP's step (43_harvest.md R172): PrngDone first (R173); nothing while acc_irq = 0 (entry 6). It
serves a pending bit whichever generation set it, a stale one in H_WAIT too (DEDUCED, entry 20). -/
def dispStep (s : State) : State :=
  if s.accIrq then
    if s.acc.prngIf then
      { s with b := { s.b with prngDone := true }, acc := { s.acc with prngIf := false } }
    else if s.acc.aesIf then
      { s with b := { s.b with aesIf := true }, acc := { s.acc with aesIf := false } }
    else s
  else s

/-- The block a completion writes (43_harvest.md R170): the draw, unless PRNG_FN is given and a
Start has been received, whose seed it is then the image of (entry 16). -/
def completionBlock (p : Params) (a : Acc) (draw : Block) : Block :=
  match p.prngFnGiven, a.start with
  | true, some ev => Config.prngFn ev.seed
  | true, none => draw
  | false, _ => draw

/-- ACC's completion (43_harvest.md R170), enabled while ACC_BUSY = 1. -/
def accDoneStep (p : Params) (draw : Block) (a : Acc) : Acc :=
  if a.busy then
    { a with out := completionBlock p a draw, prngIf := true, busy := false }
  else a

/-- An unrelated AES completion (43_harvest.md R171). -/
def accAesDoneStep (a : Acc) : Acc := { a with aesIf := true }

/-- ACC_AES_IE takes a value (43_harvest.md R171). -/
def accAesIeStep (on : Bool) (a : Acc) : Acc := { a with aesIe := on }

end Sys2Proof.Machine
end

