-- ==== Sys2Proof/Syntax.lean ====
section
/-! DEFINITION. The instructions: one constructor for each of the 34 rows of the opcode table. -/

namespace Sys2Proof

/-- What HOST can have BCSH do in one access. The first six are the command words (format CMD,
30_encoding.md R82); the others are the register accesses (format BUS, R88). A write row carries
the 32-bit data word of the access (R83); OUT and WIN rows carry their index (R88). -/
inductive Instr where
  | nop
  | init
  | extractBit
  | extractWord
  | harvest
  | getWord
  | rdCmd
  | wrCmd (w : Word)
  | rdStatus
  | wrStatus (w : Word)
  | rdCtrl
  | wrCtrl (w : Word)
  | rdIntsts
  | wrIntsts (w : Word)
  | rdResult
  | wrResult (w : Word)
  | rdSeed
  | wrSeed (w : Word)
  | rdSum
  | wrSum (w : Word)
  | rdCursor
  | wrCursor (w : Word)
  | rdBandLo
  | wrBandLo (w : Word)
  | rdBandHi
  | wrBandHi (w : Word)
  | rdLasts
  | wrLasts (w : Word)
  | rdRejcnt
  | wrRejcnt (w : Word)
  | rdOut (k : BitVec 3)
  | wrOut (k : BitVec 3) (w : Word)
  | rdWin (i : BitVec 5)
  | wrWin (i : BitVec 5) (w : Word)
  deriving DecidableEq, Repr

end Sys2Proof
end

