-- ==== Sys2Proof/WellFormed.lean ====
section
/-! DEFINITION. What a raw host word and a parameter set must satisfy, stated on numbers and
independently of the decoder. An `Instr` needs no check of its own: its operand types admit exactly
the values the encoding admits (30_encoding.md R81, R88). -/

namespace Sys2Proof

/-- RSV, bits [31:3] of a command word, is 0 (30_encoding.md R81). -/
def cmdReservedZero (w : Word) : Bool := decide (w.toNat / 8 = 0)

/-- OPC, bits [2:0] of a command word, is 0 to 5 (30_encoding.md R82). -/
def cmdOpcodeLegal (w : Word) : Bool := decide (w.toNat % 8 ≤ 5)

/-- SIZE, bits [10:9] of a descriptor, is 2: four bytes (30_encoding.md R86). -/
def busSizeLegal (ad : BitVec 11) : Bool := decide (ad.toNat / 512 = 2)

/-- OFF[1:0] of a descriptor is 00 (30_encoding.md R86). -/
def busAligned (ad : BitVec 11) : Bool := decide (ad.toNat % 4 = 0)

/-- OFF of a descriptor lies in neither hole of the aperture, 0x30 to 0x3F or 0x60 to 0x7F
(10_state.md R40, 20_memory.md R62; the holes are named by their word offsets there). -/
def busMapped (ad : BitVec 11) : Bool :=
  let off := ad.toNat % 256
  !(decide (0x30 ≤ off) && decide (off ≤ 0x3F)) && !(decide (0x60 ≤ off) && decide (off ≤ 0x7F))

/-- The raw word selects a row of the opcode table (30_encoding.md R82, R86). -/
def Machine.HostWord.wellFormed : Machine.HostWord → Bool
  | .cmd w => cmdReservedZero w && cmdOpcodeLegal w
  | .bus ad _ => busSizeLegal ad && busAligned ad && busMapped ad

/-- P_BASE is 256-byte aligned (00_scope.md R7). -/
def Params.baseAligned (p : Params) : Bool := decide (p.base.toNat % 256 = 0)

/-- P_RETRY_LIMIT is NONE or at least 1 (00_scope.md R7). -/
def Params.retryLegal (p : Params) : Bool :=
  match p.retryLimit with
  | none => true
  | some l => decide (1 ≤ l)

/-- P_RCT_CUTOFF is 2 to 0xFFFF (41_aggregator_conditioner.md R139). -/
def Params.cutoffLegal (p : Params) : Bool :=
  decide (2 ≤ p.rctCutoff) && decide (p.rctCutoff ≤ 0xFFFF)

/-- The parameters have values 00_scope.md R7 admits. -/
def Params.wellFormed (p : Params) : Bool := p.baseAligned && p.retryLegal && p.cutoffLegal

end Sys2Proof
end

