-- ==== Sys2Proof/Decode.lean ====
section
/-! DEFINITION. The decoder of raw host words, total, rejecting by name; the encoder; and the
reading of a word numbered as the opcode table numbers it. -/

namespace Sys2Proof

open Machine (Opcode Reg HostWord DecodeError)

/-- OPC and RSV of a command word (30_encoding.md R81): its operation, or nothing where RSV is not
0 or OPC is 6 or 7 (R84). -/
def decodeOpcode (w : Word) : Option Opcode :=
  if w.extractLsb' 3 29 ≠ 0#29 then none
  else match (w.extractLsb' 0 3).toNat with
    | 0 => some .nop
    | 1 => some .init
    | 2 => some .extractBit
    | 3 => some .extractWord
    | 4 => some .harvest
    | 5 => some .getWord
    | _ => none

/-- The row of the opcode table an operation is. -/
def opcodeInstr : Opcode → Instr
  | .nop => .nop
  | .init => .init
  | .extractBit => .extractBit
  | .extractWord => .extractWord
  | .harvest => .harvest
  | .getWord => .getWord

/-- SIZE of an access descriptor, bits [10:9] (30_encoding.md R86). -/
def adSize (ad : BitVec 11) : BitVec 2 := ad.extractLsb' 9 2

/-- W of an access descriptor, bit [8]: a write. -/
def adWrite (ad : BitVec 11) : Bool := ad.getLsbD 8

/-- OFF of an access descriptor, bits [7:0]. -/
def adOff (ad : BitVec 11) : BitVec 8 := ad.extractLsb' 0 8

/-- The register at an aligned offset (30_encoding.md R88): 1iiiii00 is WINi, 010kkk00 is OUTk, the
twelve others by their offset, and nothing in the two holes. -/
def decodeReg (off : BitVec 8) : Option Reg :=
  if off.getLsbD 7 then some (.win (off.extractLsb' 2 5))
  else if off.extractLsb' 5 3 = 0b010#3 then some (.out (off.extractLsb' 2 3))
  else match off.toNat with
    | 0x00 => some .cmd
    | 0x04 => some .status
    | 0x08 => some .ctrl
    | 0x0C => some .intsts
    | 0x10 => some .result
    | 0x14 => some .seed
    | 0x18 => some .sum
    | 0x1C => some .cursor
    | 0x20 => some .bandLo
    | 0x24 => some .bandHi
    | 0x28 => some .lasts
    | 0x2C => some .rejcnt
    | _ => none

/-- The read row of a register (30_encoding.md R88). -/
def readInstr : Reg → Instr
  | .cmd => .rdCmd
  | .status => .rdStatus
  | .ctrl => .rdCtrl
  | .intsts => .rdIntsts
  | .result => .rdResult
  | .seed => .rdSeed
  | .sum => .rdSum
  | .cursor => .rdCursor
  | .bandLo => .rdBandLo
  | .bandHi => .rdBandHi
  | .lasts => .rdLasts
  | .rejcnt => .rdRejcnt
  | .out k => .rdOut k
  | .win i => .rdWin i

/-- The write row of a register, with the data word (30_encoding.md R83, R88). -/
def writeInstr (r : Reg) (w : Word) : Instr :=
  match r with
  | .cmd => .wrCmd w
  | .status => .wrStatus w
  | .ctrl => .wrCtrl w
  | .intsts => .wrIntsts w
  | .result => .wrResult w
  | .seed => .wrSeed w
  | .sum => .wrSum w
  | .cursor => .wrCursor w
  | .bandLo => .wrBandLo w
  | .bandHi => .wrBandHi w
  | .lasts => .wrLasts w
  | .rejcnt => .wrRejcnt w
  | .out k => .wrOut k w
  | .win i => .wrWin i w

/-- `decode_bus` of 30_encoding.md R87, its checks in its order. -/
def decodeBus (ad : BitVec 11) (data : Word) : Except DecodeError Instr :=
  if adSize ad ≠ 2#2 then .error .badSize
  else if ad.extractLsb' 0 2 ≠ 0#2 then .error .misaligned
  else match decodeReg (adOff ad) with
    | none => .error .unmapped
    | some r => .ok (if adWrite ad then writeInstr r data else readInstr r)

/-- The decoder, total on every raw host word of either format (30_encoding.md R82, R87). -/
def decode : HostWord → Except DecodeError Instr
  | .cmd w =>
    match decodeOpcode w with
    | some c => .ok (opcodeInstr c)
    | none => .error .illegalCommand
  | .bus ad data => decodeBus ad data

/-- The offset of a register (10_state.md R40). -/
def regOff : Reg → BitVec 8
  | .cmd => 0x00#8
  | .status => 0x04#8
  | .ctrl => 0x08#8
  | .intsts => 0x0C#8
  | .result => 0x10#8
  | .seed => 0x14#8
  | .sum => 0x18#8
  | .cursor => 0x1C#8
  | .bandLo => 0x20#8
  | .bandHi => 0x24#8
  | .lasts => 0x28#8
  | .rejcnt => 0x2C#8
  | .out k => 0b010#3 ++ k ++ 0b00#2
  | .win i => 0b1#1 ++ i ++ 0b00#2

/-- The descriptor of an admitted read: SIZE = 2, W = 0 (30_encoding.md R86). -/
def readWord (r : Reg) : HostWord := .bus (0b10#2 ++ 0b0#1 ++ regOff r) 0#32

/-- The descriptor of an admitted write, SIZE = 2, W = 1, with its data word. -/
def writeWord (r : Reg) (w : Word) : HostWord := .bus (0b10#2 ++ 0b1#1 ++ regOff r) w

/-- A command word: RSV = 0 above OPC (30_encoding.md R81). -/
def cmdWord (opc : BitVec 3) : HostWord := .cmd (0#29 ++ opc)

/-- The encoder: the raw host word of each instruction, from the tables of 30_encoding.md R82, R86
and R88. A read carries no data; its data word is written as 0. -/
def encode : Instr → HostWord
  | .nop => cmdWord 0#3
  | .init => cmdWord 1#3
  | .extractBit => cmdWord 2#3
  | .extractWord => cmdWord 3#3
  | .harvest => cmdWord 4#3
  | .getWord => cmdWord 5#3
  | .rdCmd => readWord .cmd
  | .wrCmd w => writeWord .cmd w
  | .rdStatus => readWord .status
  | .wrStatus w => writeWord .status w
  | .rdCtrl => readWord .ctrl
  | .wrCtrl w => writeWord .ctrl w
  | .rdIntsts => readWord .intsts
  | .wrIntsts w => writeWord .intsts w
  | .rdResult => readWord .result
  | .wrResult w => writeWord .result w
  | .rdSeed => readWord .seed
  | .wrSeed w => writeWord .seed w
  | .rdSum => readWord .sum
  | .wrSum w => writeWord .sum w
  | .rdCursor => readWord .cursor
  | .wrCursor w => writeWord .cursor w
  | .rdBandLo => readWord .bandLo
  | .wrBandLo w => writeWord .bandLo w
  | .rdBandHi => readWord .bandHi
  | .wrBandHi w => writeWord .bandHi w
  | .rdLasts => readWord .lasts
  | .wrLasts w => writeWord .lasts w
  | .rdRejcnt => readWord .rejcnt
  | .wrRejcnt w => writeWord .rejcnt w
  | .rdOut k => readWord (.out k)
  | .wrOut k w => writeWord (.out k) w
  | .rdWin i => readWord (.win i)
  | .wrWin i w => writeWord (.win i) w

/-- The raw host word whose bits are `w` as the opcode table numbers them (entry 2). A row of at
most 16 bits is a descriptor in bits [10:0] of its first 16-bit word, and the data word follows it
from bit 16 up; a wider row is a command word. Bits [15:11] of a descriptor do not exist. -/
def tableHostWord (nbits w : Nat) : Option HostWord :=
  if nbits ≤ 16 then
    if w % 65536 < 2048 then some (.bus (BitVec.ofNat 11 w) (BitVec.ofNat 32 (w / 65536))) else none
  else if w < 4294967296 then some (.cmd (BitVec.ofNat 32 w)) else none

/-- The instruction the decoder reads from a word numbered as the opcode table numbers it. -/
def decodeTableWord (nbits w : Nat) : Option Instr :=
  match tableHostWord nbits w with
  | none => none
  | some h =>
    match decode h with
    | .ok i => some i
    | .error _ => none

end Sys2Proof
end

