-- ==== Sys2Proof/Machine/Commands.lean ====
section
/-! DEFINITION. The command rows (format CMD) and WR_CMD: 45_register_access.md R201, R202. -/

namespace Sys2Proof.Machine

/-- NOP (45_register_access.md R202): no effect, in every STATE; the access completes. -/
def execNop (s : State) : Host.Outcome State Fault Refusal := .next s.answerIgnored

/-- INIT (42_init.md R150), under the checks of 45_register_access.md R201. -/
def execInit (s : State) : Host.Outcome State Fault Refusal :=
  .next (s.answerWrite (Bcsh.issue false Bcsh.acceptInit))

/-- EXTRACT_BIT (40_bias_corrector.md R115), under the checks of 45_register_access.md R201. -/
def execExtractBit (s : State) : Host.Outcome State Fault Refusal :=
  .next (s.answerWrite (Bcsh.issue true Bcsh.acceptExtractBit))

/-- EXTRACT_WORD (41_aggregator_conditioner.md R142), under the checks of R201. -/
def execExtractWord (s : State) : Host.Outcome State Fault Refusal :=
  .next (s.answerWrite (Bcsh.issue true Bcsh.acceptExtractWord))

/-- HARVEST (43_harvest.md R161), under the checks of 45_register_access.md R201. -/
def execHarvest (s : State) : Host.Outcome State Fault Refusal :=
  .next (s.answerWrite (Bcsh.issue true Bcsh.acceptHarvest))

/-- GET_WORD (43_harvest.md R175), under the checks of 45_register_access.md R201. -/
def execGetWord (s : State) : Host.Outcome State Fault Refusal :=
  .next (s.answerWrite (Bcsh.issue false Bcsh.acceptGetWord))

/-- A command word that selects no operation: `CmdError(ILLEGAL)`, before every other check
(30_encoding.md R84). The access itself completes (45_register_access.md R201). -/
def illegalCommand (s : State) : State := s.answerWrite (Bcsh.cmdError .illegal)

/-- WR_CMD (45_register_access.md R201): the command its data word is, or `CmdError(ILLEGAL)`. -/
def execWrCmd (w : Word) (s : State) : Host.Outcome State Fault Refusal :=
  match decodeOpcode w with
  | none => .next (illegalCommand s)
  | some .nop => .next s.answerIgnored
  | some .init => .next (s.answerWrite (Bcsh.issue false Bcsh.acceptInit))
  | some .extractBit => .next (s.answerWrite (Bcsh.issue true Bcsh.acceptExtractBit))
  | some .extractWord => .next (s.answerWrite (Bcsh.issue true Bcsh.acceptExtractWord))
  | some .harvest => .next (s.answerWrite (Bcsh.issue true Bcsh.acceptHarvest))
  | some .getWord => .next (s.answerWrite (Bcsh.issue false Bcsh.acceptGetWord))

end Sys2Proof.Machine
end

