-- ==== Sys2Proof/Machine/Reads.lean ====
section
/-! DEFINITION. The read rows (45_register_access.md R210 to R223): each answers its register's value
and changes no state of BCSH (R200). -/

namespace Sys2Proof.Machine

/-- RD_CMD (45_register_access.md R210): always 0. -/
def execRdCmd (s : State) : Host.Outcome State Fault Refusal :=
  .next (s.answerRead 0#32)

/-- RD_STATUS (45_register_access.md R211). -/
def execRdStatus (s : State) : Host.Outcome State Fault Refusal :=
  .next (s.answerRead (statusValue s.b))

/-- RD_CTRL (45_register_access.md R212). -/
def execRdCtrl (s : State) : Host.Outcome State Fault Refusal :=
  .next (s.answerRead (ctrlValue s.par s.b))

/-- RD_INTSTS (45_register_access.md R213): reading does not clear. -/
def execRdIntsts (s : State) : Host.Outcome State Fault Refusal :=
  .next (s.answerRead (intstsValue s.b))

/-- RD_RESULT (45_register_access.md R214). -/
def execRdResult (s : State) : Host.Outcome State Fault Refusal :=
  .next (s.answerRead s.b.result)

/-- RD_SEED (45_register_access.md R215): SR as it stands, a partial word too. -/
def execRdSeed (s : State) : Host.Outcome State Fault Refusal :=
  .next (s.answerRead s.b.sr)

/-- RD_SUM (45_register_access.md R216). -/
def execRdSum (s : State) : Host.Outcome State Fault Refusal :=
  .next (s.answerRead (s.b.sum.setWidth 32))

/-- RD_CURSOR (45_register_access.md R217). -/
def execRdCursor (s : State) : Host.Outcome State Fault Refusal :=
  .next (s.answerRead (s.b.cursor.setWidth 32))

/-- RD_BAND_LO (45_register_access.md R218). -/
def execRdBandLo (s : State) : Host.Outcome State Fault Refusal :=
  .next (s.answerRead (sampleValue s.b.bandLo))

/-- RD_BAND_HI (45_register_access.md R219). -/
def execRdBandHi (s : State) : Host.Outcome State Fault Refusal :=
  .next (s.answerRead (sampleValue s.b.bandHi))

/-- RD_LASTS (45_register_access.md R220). -/
def execRdLasts (s : State) : Host.Outcome State Fault Refusal :=
  .next (s.answerRead (sampleValue s.b.lasts))

/-- RD_REJCNT (45_register_access.md R221). -/
def execRdRejcnt (s : State) : Host.Outcome State Fault Refusal :=
  .next (s.answerRead s.b.rejcnt)

/-- RD_OUT (45_register_access.md R222): OUT[k]. -/
def execRdOut (k : BitVec 3) (s : State) : Host.Outcome State Fault Refusal :=
  .next (s.answerRead (blockWord s.b.out k))

/-- RD_WIN (45_register_access.md R223): WIN[i], zero-extended. -/
def execRdWin (i : BitVec 5) (s : State) : Host.Outcome State Fault Refusal :=
  .next (s.answerRead (sampleValue (windowSlot s.b.win i)))

end Sys2Proof.Machine
end

