-- ==== Sys2Proof/Machine/Writes.lean ====
section
/-! DEFINITION. The write rows but WR_CMD: the writable registers (45_register_access.md R203 to R206)
and the writes that are ignored (R224 to R232). -/

namespace Sys2Proof.Machine

/-- The effect of a write of CTRL (45_register_access.md R203): an enable whose unit is absent stays
0, and RCTEN = 0 clears RCT_CNT where the repetition-count test exists. -/
def ctrlWrite (p : Params) (w : Word) (b : Bcsh) : Bcsh :=
  { b with
    doneIe := w.getLsbD 0
    errIe := w.getLsbD 1
    hlthIe := w.getLsbD 2
    aesIe := w.getLsbD 3
    vnen := p.hasVn && w.getLsbD 4
    rcten := p.hasRct && w.getLsbD 5
    rctCnt := if p.hasRct && !w.getLsbD 5 then 0 else b.rctCnt }

/-- WR_CTRL (45_register_access.md R203), at once, also while BUSY. -/
def execWrCtrl (w : Word) (s : State) : Host.Outcome State Fault Refusal :=
  .next (s.answerWrite (ctrlWrite s.par w))

/-- WR_INTSTS (45_register_access.md R204): write-one-to-clear. -/
def execWrIntsts (w : Word) (s : State) : Host.Outcome State Fault Refusal :=
  .next (s.answerWrite (Bcsh.clearFlags w))

/-- WR_BAND_LO (45_register_access.md R205): bits [11:0], at once. -/
def execWrBandLo (w : Word) (s : State) : Host.Outcome State Fault Refusal :=
  .next (s.answerWrite fun b => { b with bandLo := sampleField w })

/-- WR_BAND_HI (45_register_access.md R206): bits [11:0], at once. -/
def execWrBandHi (w : Word) (s : State) : Host.Outcome State Fault Refusal :=
  .next (s.answerWrite fun b => { b with bandHi := sampleField w })

/-- WR_STATUS (45_register_access.md R224): ignored. -/
def execWrStatus (_w : Word) (s : State) : Host.Outcome State Fault Refusal :=
  .next s.answerIgnored

/-- WR_RESULT (45_register_access.md R225): ignored. -/
def execWrResult (_w : Word) (s : State) : Host.Outcome State Fault Refusal :=
  .next s.answerIgnored

/-- WR_SEED (45_register_access.md R226): ignored. -/
def execWrSeed (_w : Word) (s : State) : Host.Outcome State Fault Refusal :=
  .next s.answerIgnored

/-- WR_SUM (45_register_access.md R227): ignored. -/
def execWrSum (_w : Word) (s : State) : Host.Outcome State Fault Refusal :=
  .next s.answerIgnored

/-- WR_CURSOR (45_register_access.md R228): ignored. -/
def execWrCursor (_w : Word) (s : State) : Host.Outcome State Fault Refusal :=
  .next s.answerIgnored

/-- WR_LASTS (45_register_access.md R229): ignored. -/
def execWrLasts (_w : Word) (s : State) : Host.Outcome State Fault Refusal :=
  .next s.answerIgnored

/-- WR_REJCNT (45_register_access.md R230): ignored. -/
def execWrRejcnt (_w : Word) (s : State) : Host.Outcome State Fault Refusal :=
  .next s.answerIgnored

/-- WR_OUT (45_register_access.md R231): ignored. -/
def execWrOut (_k : BitVec 3) (_w : Word) (s : State) : Host.Outcome State Fault Refusal :=
  .next s.answerIgnored

/-- WR_WIN (45_register_access.md R232): ignored. -/
def execWrWin (_i : BitVec 5) (_w : Word) (s : State) : Host.Outcome State Fault Refusal :=
  .next s.answerIgnored

end Sys2Proof.Machine
end

