-- ==== Sys2Proof/Machine/Dispatch.lean ====
section
/-! DEFINITION. The meaning of each instruction, one arm per constructor. -/

namespace Sys2Proof.Machine

def exec (i : Instr) (s : State) : Host.Outcome State Fault Refusal :=
  match i with
  | .nop => Sys2Proof.Machine.execNop s
  | .init => Sys2Proof.Machine.execInit s
  | .extractBit => Sys2Proof.Machine.execExtractBit s
  | .extractWord => Sys2Proof.Machine.execExtractWord s
  | .harvest => Sys2Proof.Machine.execHarvest s
  | .getWord => Sys2Proof.Machine.execGetWord s
  | .rdCmd => Sys2Proof.Machine.execRdCmd s
  | .wrCmd w => Sys2Proof.Machine.execWrCmd w s
  | .rdStatus => Sys2Proof.Machine.execRdStatus s
  | .wrStatus w => Sys2Proof.Machine.execWrStatus w s
  | .rdCtrl => Sys2Proof.Machine.execRdCtrl s
  | .wrCtrl w => Sys2Proof.Machine.execWrCtrl w s
  | .rdIntsts => Sys2Proof.Machine.execRdIntsts s
  | .wrIntsts w => Sys2Proof.Machine.execWrIntsts w s
  | .rdResult => Sys2Proof.Machine.execRdResult s
  | .wrResult w => Sys2Proof.Machine.execWrResult w s
  | .rdSeed => Sys2Proof.Machine.execRdSeed s
  | .wrSeed w => Sys2Proof.Machine.execWrSeed w s
  | .rdSum => Sys2Proof.Machine.execRdSum s
  | .wrSum w => Sys2Proof.Machine.execWrSum w s
  | .rdCursor => Sys2Proof.Machine.execRdCursor s
  | .wrCursor w => Sys2Proof.Machine.execWrCursor w s
  | .rdBandLo => Sys2Proof.Machine.execRdBandLo s
  | .wrBandLo w => Sys2Proof.Machine.execWrBandLo w s
  | .rdBandHi => Sys2Proof.Machine.execRdBandHi s
  | .wrBandHi w => Sys2Proof.Machine.execWrBandHi w s
  | .rdLasts => Sys2Proof.Machine.execRdLasts s
  | .wrLasts w => Sys2Proof.Machine.execWrLasts w s
  | .rdRejcnt => Sys2Proof.Machine.execRdRejcnt s
  | .wrRejcnt w => Sys2Proof.Machine.execWrRejcnt w s
  | .rdOut k => Sys2Proof.Machine.execRdOut k s
  | .wrOut k w => Sys2Proof.Machine.execWrOut k w s
  | .rdWin ix => Sys2Proof.Machine.execRdWin ix s
  | .wrWin ix w => Sys2Proof.Machine.execWrWin ix w s

end Sys2Proof.Machine
end

