-- ==== Sys2Proof/Machine/HostProgram.lean ====
section
/-! DEFINITION. The HOST software in scope by 00_scope.md R3: the poll adapter (44_host_protocol.md
R190 to R194) and the get-word sequence (R195), one access a step. It changes nothing in BCSH but
through the accesses it performs. -/

namespace Sys2Proof.Machine

/-- A poll returns: `actual_len`, success, the program idle (44_host_protocol.md R192). -/
def HostSw.finishPoll (sw : HostSw) : HostSw :=
  { sw with pc := .idle, actualLen := sw.len, success := true }

/-- A call of the HOST software. `poll(dest, 0)` returns at once, without any access (R191). A call
while a program runs is no call (each is fully synchronous, R196; entry 17). -/
def HostSw.call (c : HostCall) (sw : HostSw) : HostSw :=
  if sw.pc ≠ .idle then sw
  else match c with
    | .poll dest len =>
      if len = 0 then { sw with dest := dest, len := 0, off := 0, actualLen := 0, success := true }
      else { sw with pc := .pollStatus, dest := dest, len := len, off := 0, k := 0, success := false }
    | .getWord => { sw with pc := .gwIssue }

/-- After the first `RD STATUS` of poll: `CMD INIT` unless t[1], INIT_DONE, is 1 (R192). -/
def HostSw.afterStatus (t : Word) (sw : HostSw) : HostSw :=
  if t.getLsbD 1 then { sw with pc := .pollHarvest } else { sw with pc := .pollInit }

/-- One turn of WAITIDLE (30_encoding.md R89) at `here`: again while BUSY; the command issued again
from `again` where ERR_CODE is 4 (44_host_protocol.md R194); else on to `next`. -/
def HostSw.afterWait (here again next : HostPc) (t : Word) (sw : HostSw) : HostSw :=
  if t.getLsbD 0 then { sw with pc := here }
  else if t.extractLsb' 8 4 = ErrCause.retryLimit.code then { sw with pc := again }
  else { sw with pc := next }

/-- At least one whole block remains (R192). -/
def HostSw.wholeBlock (sw : HostSw) : Bool := decide (32 ≤ sw.len - sw.off)

/-- The temporary block with one OUT word's bytes put in (R192). -/
def tmpPut (tmp : Vector Byte 32) (k : BitVec 3) (w : Word) : Vector Byte 32 :=
  (((tmp.setIfInBounds (4 * k.toNat) (wordByte w 0)).setIfInBounds (4 * k.toNat + 1) (wordByte w 1)
    ).setIfInBounds (4 * k.toNat + 2) (wordByte w 2)).setIfInBounds (4 * k.toNat + 3) (wordByte w 3)

/-- One OUT word's bytes put where they belong: in the destination for a whole block, else in the
temporary block (R192), bytes in the order of 20_memory.md R65. -/
def HostSw.putWord (w : Word) (sw : HostSw) : HostSw :=
  if sw.wholeBlock then
    { sw with mem := sw.mem.writeBytes (sw.dest + sw.off + 4 * sw.k.toNat) (wordBytes w) }
  else { sw with tmp := tmpPut sw.tmp sw.k w }

/-- After the eighth word: the next harvest, or the remainder's copy, or the return (R192). The copy
from the temporary block touches host memory only and is part of the same step (entry 17). -/
def HostSw.blockDone (sw : HostSw) : HostSw :=
  if sw.wholeBlock then
    if sw.off + 32 = sw.len then { sw with off := sw.off + 32 }.finishPoll
    else { sw with off := sw.off + 32, k := 0, pc := .pollHarvest }
  else
    { sw with
      mem := sw.mem.writeBytes (sw.dest + sw.off) (sw.tmp.toList.take (sw.len - sw.off))
      off := sw.len }.finishPoll

/-- After `RD OUTk` of poll (R192). -/
def HostSw.afterOut (w : Word) (sw : HostSw) : HostSw :=
  if sw.k = 7 then (sw.putWord w).blockDone
  else { sw.putWord w with k := sw.k + 1 }

/-- After `RD RESULT` of the get-word sequence: the word is returned (R195). -/
def HostSw.afterResult (w : Word) (sw : HostSw) : HostSw := { sw with pc := .idle, word := w }

/-- The value the last access read, 0 if it was no read. -/
def HostResp.value : HostResp → Word
  | .data w => w
  | _ => 0

/-- One access of the HOST software, and what the software does with the value read. -/
def hostAccess (i : Instr) (k : Word → HostSw → HostSw) (s : State) :
    Host.Outcome State Fault Refusal :=
  match exec i s with
  | .next t => .next { t with sw := k t.resp.value t.sw }
  | .fault r => .fault r
  | .refused r => .refused r

/-- The HOST software's next access (R192, R195); none between calls (entry 6). -/
def programStep (s : State) : Host.Outcome State Fault Refusal :=
  match s.sw.pc with
  | .idle => .next s
  | .pollStatus => hostAccess .rdStatus HostSw.afterStatus s
  | .pollInit => hostAccess (.wrCmd 1#32) (fun _ sw => { sw with pc := .pollInitWait }) s
  | .pollInitWait => hostAccess .rdStatus (HostSw.afterWait .pollInitWait .pollInit .pollHarvest) s
  | .pollHarvest =>
    hostAccess (.wrCmd 4#32) (fun _ sw => { sw with pc := .pollHarvestWait, k := 0 }) s
  | .pollHarvestWait =>
    hostAccess .rdStatus (HostSw.afterWait .pollHarvestWait .pollHarvest .pollRead) s
  | .pollRead => hostAccess (.rdOut s.sw.k) HostSw.afterOut s
  | .gwIssue => hostAccess (.wrCmd 5#32) (fun _ sw => { sw with pc := .gwWait }) s
  | .gwWait => hostAccess .rdStatus (HostSw.afterWait .gwWait .gwIssue .gwRead) s
  | .gwRead => hostAccess .rdResult HostSw.afterResult s

end Sys2Proof.Machine
end

