-- ==== Sys2Proof/Machine/Fetch.lean ====
section
/-! DEFINITION. Taking an event: a raw HOST word is decoded and its instruction executed; a word
that selects no row has the error the spec gives it; the other agents' events are their steps. -/

namespace Sys2Proof.Machine

/-- What a raw HOST word that selects no row does: `CmdError(ILLEGAL)` for a command word
(30_encoding.md R84), `BusError` for a descriptor (R87). Both are next states. -/
def rejectWord (e : DecodeError) (s : State) : State :=
  match e with
  | .illegalCommand => illegalCommand s
  | .badSize => s.answerBusError
  | .misaligned => s.answerBusError
  | .unmapped => s.answerBusError

/-- HOST's step for a raw word (30_encoding.md R80). -/
def hostStep (h : HostWord) (s : State) : Host.Outcome State Fault Refusal :=
  match decode h with
  | .ok i => exec i s
  | .error e => .next (rejectWord e s)

/-- The address lies in the aperture P_BASE .. P_BASE + 0xFF (20_memory.md R60): its upper 24 bits
are those of P_BASE. -/
def inAperture (p : Params) (a : Word) : Bool := a.extractLsb' 8 24 == p.base.extractLsb' 8 24

/-- The descriptor of an access by address (30_encoding.md R86). -/
def accessDescriptor (a : MemAccess) : BitVec 11 :=
  a.size ++ BitVec.ofBool a.write ++ a.addr.extractLsb' 0 8

/-- HOST's step for an access by address (20_memory.md R60): one outside the aperture does not reach
BCSH (R62; entry 15). -/
def memStep (a : MemAccess) (s : State) : Host.Outcome State Fault Refusal :=
  if inAperture s.par a.addr then hostStep (.bus (accessDescriptor a) a.data) s
  else .next (s.answer .outside s.b)

/-- One event of an agent (00_scope.md R9), or the reset input. -/
def takeEvent (e : Event) (s : State) : Host.Outcome State Fault Refusal :=
  match e with
  | .host h => hostStep h s
  | .mem a => memStep a s
  | .call c => .next { s with sw := s.sw.call c }
  | .program => programStep s
  | .seq d => seqStep d s
  | .disp => .next (dispStep s)
  | .accDone draw => .next { s with acc := accDoneStep s.par draw s.acc }
  | .accAesDone => .next { s with acc := accAesDoneStep s.acc }
  | .accAesIe on => .next { s with acc := accAesIeStep on s.acc }
  | .reset => .next s.assertReset

end Sys2Proof.Machine
end

