-- ==== Sys2Proof/Machine/Step.lean ====
section
/-! DEFINITION. One step: the oldest listed event is taken; with none listed, the next one of the
free schedule (00_scope.md R9 to R12; entry 1). -/

namespace Sys2Proof.Machine

def step (s : State) : Host.Outcome State Fault Refusal :=
  match s.inbox with
  | e :: rest => takeEvent e { s with inbox := rest }
  | [] => takeEvent (Config.schedule s.tick) { s with tick := s.tick + 1 }

/-- The instruction whose bits the opcode table numbers `w`, put where `step` takes its next event:
HOST performs it next (entry 2). A word that is no host word changes nothing. -/
def State.withFetchWord (s : State) (nbits w : Nat) : State :=
  match tableHostWord nbits w with
  | some h => { s with inbox := .host h :: s.inbox }
  | none => s

end Sys2Proof.Machine
end

