-- ==== Sys2Proof/Safety.lean ====
section
/-! DEFINITION. What claims speak of: the launch premises (70_reset_and_hazards.md R280), the
consistency invariants of BCSH, which agents have a step, the end of a run (R284), the runs that
never end (60_exceptions.md R238), and fairness (00_scope.md R12). -/

namespace Sys2Proof.Machine

/-- PREM_BCSH_RESET (R280): every BCSH field as reset leaves it, but the band and CTRL. -/
def State.premBcshReset (s : State) : Prop :=
  { s.b with
    bandLo := (Bcsh.reset s.par).bandLo, bandHi := (Bcsh.reset s.par).bandHi
    doneIe := false, errIe := false, hlthIe := false, aesIe := false
    vnen := false, rcten := false } = Bcsh.reset s.par

/-- PREM_ADC_CONFIGURED (R280). -/
def State.premAdcConfigured (s : State) : Prop := s.adcConfigured = true

/-- PREM_ACC_IDLE (R280). -/
def State.premAccIdle (s : State) : Prop :=
  s.acc.busy = false ∧ s.acc.prngIf = false ∧ s.acc.aesIf = false

/-- PREM_NO_ERROR (R280). -/
def State.premNoError (s : State) : Prop :=
  s.b.errCode = 0 ∧ s.b.doneIf = false ∧ s.b.errIf = false ∧ s.b.hlthIf = false ∧ s.b.aesIf = false

/-- A launch the premises of R280 admit, with parameters 00_scope.md R7 admits. -/
def State.launch (s : State) : Prop :=
  s.premBcshReset ∧ s.premAdcConfigured ∧ s.premAccIdle ∧ s.premNoError ∧ s.par.wellFormed = true

/-- `SUM == Σ WIN` (10_state.md R22). -/
def Bcsh.sumExact (b : Bcsh) : Prop := b.sum.toNat = windowSum b.win

/-- OP and INIT_DONE agree with STATE (10_state.md R34): 0 in IDLE; INIT or GET_WORD while the
window is being initialized; each other state under its own command, after initialization. -/
def Bcsh.opAgrees (b : Bcsh) : Prop :=
  match b.state with
  | .idle => b.op = 0
  | .initFill => (b.op = 1 ∨ b.op = 5) ∧ b.initDone = false
  | .initDiscard => (b.op = 1 ∨ b.op = 5) ∧ b.initDone = false
  | .xbit => b.op = 2 ∧ b.initDone = true
  | .xword => b.op = 3 ∧ b.initDone = true
  | .hArm => (b.op = 4 ∨ b.op = 5) ∧ b.initDone = true
  | .hSeed => (b.op = 4 ∨ b.op = 5) ∧ b.initDone = true
  | .hStart => (b.op = 4 ∨ b.op = 5) ∧ b.initDone = true
  | .hClear => (b.op = 4 ∨ b.op = 5) ∧ b.initDone = true
  | .hWait => (b.op = 4 ∨ b.op = 5) ∧ b.initDone = true
  | .hRead => (b.op = 4 ∨ b.op = 5) ∧ b.initDone = true

/-- SR holds only the bits delivered (41_aggregator_conditioner.md R134: `SR[31:j] = 0` after j
deliveries) and reads 0 outside the word states and H_START (10_state.md R25); BITCNT and FILLIDX
count only where they are used. -/
def Bcsh.wordAgrees (b : Bcsh) : Prop :=
  match b.state with
  | .initFill => b.sr = 0 ∧ b.bitcnt = 0 ∧ b.fillIdx.toNat < 32
  | .initDiscard => b.bitcnt.toNat < 32 ∧ b.sr.toNat < 2 ^ b.bitcnt.toNat ∧ b.fillIdx = 0
  | .xword => b.bitcnt.toNat < 32 ∧ b.sr.toNat < 2 ^ b.bitcnt.toNat ∧ b.fillIdx = 0
  | .hSeed => b.bitcnt.toNat < 32 ∧ b.sr.toNat < 2 ^ b.bitcnt.toNat ∧ b.fillIdx = 0
  | .hStart => b.bitcnt = 0 ∧ b.fillIdx = 0
  | _ => b.sr = 0 ∧ b.bitcnt = 0 ∧ b.fillIdx = 0

/-- ACC_IE is 1 from H_ARM's step to H_READ's and at no other time, and the clock is on with it
(10_state.md R38). -/
def Bcsh.accIeAgrees (b : Bcsh) : Prop :=
  match b.state with
  | .hSeed => b.accIe = true ∧ b.accClkEn = true
  | .hStart => b.accIe = true ∧ b.accClkEn = true
  | .hClear => b.accIe = true ∧ b.accClkEn = true
  | .hWait => b.accIe = true ∧ b.accClkEn = true
  | .hRead => b.accIe = true ∧ b.accClkEn = true
  | _ => b.accIe = false

/-- The conditioner state of an absent unit is 0 (41_aggregator_conditioner.md R135; entry 13), no
pair is open in IDLE (45_register_access.md R208), and ERR_CODE is a code the spec names
(60_exceptions.md R233). -/
def State.condAgrees (s : State) : Prop :=
  (s.par.hasVn = false → s.b.vnen = false ∧ s.b.vnph = false ∧ s.b.vnb1 = false) ∧
  (s.par.hasRct = false → s.b.rcten = false ∧ s.b.rctLast = 0 ∧ s.b.rctCnt = 0) ∧
  (s.b.state = .idle → s.b.vnph = false) ∧
  s.b.errCode.toNat ≤ 4

/-- In a harvest past its Start, under CLEAR_THEN_START, a completion is coming, pending, or
recorded (43_harvest.md R180: "Under CLEAR_THEN_START no such interleaving exists"); H_CLEAR is
reached only under START_THEN_CLEAR (R166). -/
def State.completionAhead (s : State) : Prop :=
  s.par.clearOrder = .clearThenStart →
    s.b.state ≠ .hClear ∧
    (s.b.state = .hWait →
      s.acc.busy = true ∨ s.acc.prngIf = true ∨ s.b.prngDone = true) ∧
    (s.b.state = .hRead → s.b.prngDone = true)

/-- DISP has a step (43_harvest.md R172). -/
def State.dispEnabled (s : State) : Prop := s.accIrq = true

/-- SEQ has a step (10_state.md R33). -/
def State.seqEnabled (s : State) : Prop := s.b.seqEnabled = true

/-- The event is a line of HOST: an access, or the call of a program. `program` is none of its own:
it goes on with a program already called, of which `HostSw.pc` tells. -/
def Event.hostLine : Event → Bool
  | .host _ => true
  | .mem _ => true
  | .call _ => true
  | .program => false
  | .seq _ => false
  | .disp => false
  | .accDone _ => false
  | .accAesDone => false
  | .accAesIe _ => false
  | .reset => false

/-- HOST has executed its last line (70_reset_and_hazards.md R284): no called program is under way,
and no line of HOST is still to come, in the inbox or in the schedule after it (entry 21). -/
def State.hostDone (s : State) : Prop :=
  s.sw.pc = .idle ∧ (∀ e ∈ s.inbox, e.hostLine = false) ∧
    ∀ n, s.tick ≤ n → (Config.schedule n).hostLine = false

/-- A run of a host program is over (70_reset_and_hazards.md R284). -/
def State.runOver (s : State) : Prop :=
  s.hostDone ∧ s.b.state = .idle ∧ s.acc.busy = false ∧ s.accIrq = false

/-- A hang (60_exceptions.md R238 b): SEQ held in H_WAIT, nothing pending and nothing coming. -/
def State.hung (s : State) : Prop :=
  s.b.state = .hWait ∧ s.b.prngDone = false ∧ s.acc.prngIf = false ∧ s.acc.busy = false

/-- SEQ is weakly fair over a run `r` under the events `ev` (00_scope.md R12). -/
def seqWeaklyFair (ev : Nat → Event) (r : Nat → State) : Prop :=
  ∀ n, (∀ m, n ≤ m → (r m).seqEnabled) → ∃ m d, n ≤ m ∧ ev m = .seq d

/-- DISP is weakly fair over a run (00_scope.md R12). ACC and HOST are under no fairness. -/
def dispWeaklyFair (ev : Nat → Event) (r : Nat → State) : Prop :=
  ∀ n, (∀ m, n ≤ m → (r m).dispEnabled) → ∃ m, n ≤ m ∧ ev m = .disp

/-- Events taken one after another, stopping at the first refusal. -/
def takeEvents : List Event → State → Host.Outcome State Fault Refusal
  | [], s => .next s
  | e :: es, s =>
    match takeEvent e s with
    | .next t => takeEvents es t
    | .fault r => .fault r
    | .refused r => .refused r

/-- The window from the slot CURSOR names on, around to the one before it: the oldest sample first
(40_bias_corrector.md R111). -/
def Bcsh.oldestFirst (b : Bcsh) : List Sample := b.win.toList.rotate b.cursor.toNat

/-- The event is an accepted-sample step of the corrector: an in-band draw in a state that tests the
band (10_state.md R33, 40_bias_corrector.md R103). -/
def State.accepts (s : State) (e : Event) : Bool :=
  match e with
  | .seq d => s.b.state.sampling && decide (s.b.state ≠ .initFill) && inBand s.b d
  | _ => false

/-- How many of the events, taken one after another, are accepted-sample steps. -/
def acceptedSamples : List Event → State → Nat
  | [], _ => 0
  | e :: es, s =>
    match takeEvent e s with
    | .next t => (s.accepts e).toNat + acceptedSamples es t
    | .fault _ => 0
    | .refused _ => 0

end Sys2Proof.Machine
end

