-- ==== Sys2Proof/Certificates/Slice0/Obligations.lean ====
section
/-! DEFINITION. The statements about the model, from the numbered rules of spec/. Where a statement
rests on a choice of the model, its docstring says so and names the log entry. -/

open Sys2Proof Sys2Proof.Machine

/-! Encoding and the step -/

/-- Decoding what the encoder writes gives the instruction back, every operand at every value. -/
def Obligations.DecodingAnEncodedInstructionGivesItBack : Prop :=
  ∀ i : Instr, decode (encode i) = .ok i

/-- Encoding what the decoder read gives the raw word back; the data word of a read, which no row
reads, is written as 0. -/
def Obligations.EncodingADecodedWordGivesItBack : Prop :=
  ∀ (h : HostWord) (i : Instr), decode h = .ok i →
    encode i =
      match h with
      | .cmd w => .cmd w
      | .bus ad data => .bus ad (if ad.toNat / 256 % 2 = 1 then data else 0)

/-- R82: the six command words, and no other word. -/
def Obligations.CommandWordSelectsItsOperation : Prop :=
  ∀ w : Word, decode (.cmd w) =
    if w = 0x00000000#32 then .ok .nop
    else if w = 0x00000001#32 then .ok .init
    else if w = 0x00000002#32 then .ok .extractBit
    else if w = 0x00000003#32 then .ok .extractWord
    else if w = 0x00000004#32 then .ok .harvest
    else if w = 0x00000005#32 then .ok .getWord
    else .error .illegalCommand

/-- R63, R64, R86: a descriptor whose SIZE is not 2, whose offset is not a multiple of 4, or whose
offset lies in a hole, is a bus error that changes nothing but the bus answer; every other one runs
the instruction it decodes to. -/
def Obligations.InadmissibleAccessIsABusErrorWithoutEffect : Prop :=
  ∀ (s : State) (ad : BitVec 11) (data : Word),
    if ad.toNat / 512 ≠ 2 ∨ ad.toNat % 4 ≠ 0 ∨
        (0x30 ≤ ad.toNat % 256 ∧ ad.toNat % 256 ≤ 0x3F) ∨
        (0x60 ≤ ad.toNat % 256 ∧ ad.toNat % 256 ≤ 0x7F) then
      takeEvent (.host (.bus ad data)) s = .next { s with resp := .busError }
    else ∃ i, decode (.bus ad data) = .ok i ∧ takeEvent (.host (.bus ad data)) s = exec i s

/-- A few words written out bit by bit from R81, R82, R86 and R88. -/
def Obligations.WrittenOutWordsDecode : Prop :=
  decode (.cmd 0b00000000000000000000000000000011#32) = .ok .extractWord ∧
  decode (.cmd 0b00000000000000000000000000001011#32) = .error .illegalCommand ∧
  decode (.bus 0b10_0_00000100#11 0#32) = .ok .rdStatus ∧
  decode (.bus 0b10_1_00100100#11 0x41A#32) = .ok (.wrBandHi 0x41A#32) ∧
  decode (.bus 0b10_0_01011100#11 0#32) = .ok (.rdOut 7#3) ∧
  decode (.bus 0b10_1_11111100#11 9#32) = .ok (.wrWin 31#5 9#32) ∧
  decode (.bus 0b01_1_00001000#11 0#32) = .error .badSize ∧
  decode (.bus 0b10_0_00000110#11 0#32) = .error .misaligned ∧
  decode (.bus 0b10_0_00110000#11 0#32) = .error .unmapped

/-- R60, R62: an access by an address P_BASE + off, off from 0 to 255, is the access of descriptor
(SIZE, W, off); one outside the aperture does not reach BCSH (the answer then recorded is the
model's, entry 15). -/
def Obligations.AccessByAddressIsTheAccessByDescriptor : Prop :=
  ∀ (s : State) (a : MemAccess), s.par.base.toNat % 256 = 0 →
    takeEvent (.mem a) s =
      if s.par.base.toNat ≤ a.addr.toNat ∧ a.addr.toNat < s.par.base.toNat + 256 then
        takeEvent (.host (.bus (BitVec.ofNat 11
          (512 * a.size.toNat + (if a.write then 256 else 0) + (a.addr.toNat - s.par.base.toNat)))
          a.data)) s
      else .next { s with resp := .outside }

/-- A step takes the oldest listed event; a HOST word that decodes to an instruction runs it on the
state with that event gone; with none listed the schedule's next event is taken (entry 1). A word
placed by `withFetchWord` is what the very next step runs (entry 2). -/
def Obligations.StepRunsTheDecodedInstruction : Prop :=
  (∀ (s : State) (e : Event) (rest : List Event), s.inbox = e :: rest →
    step s = takeEvent e { s with inbox := rest }) ∧
  (∀ (s : State) (h : HostWord) (i : Instr) (rest : List Event), s.inbox = .host h :: rest →
    decode h = .ok i → step s = exec i { s with inbox := rest }) ∧
  (∀ s : State, s.inbox = [] →
    step s = takeEvent (Config.schedule s.tick) { s with tick := s.tick + 1 }) ∧
  (∀ (s : State) (nbits w : Nat) (i : Instr), decodeTableWord nbits w = some i →
    step (s.withFetchWord nbits w) = exec i s)

/-! Commands -/

/-- R202: NOP, as a command word and as a write of CMD, in every state. -/
def Obligations.NopChangesNothing : Prop :=
  ∀ s : State,
    exec .nop s = .next { s with resp := .done } ∧
    exec (.wrCmd 0x00000000#32) s = .next { s with resp := .done }

/-- R84, R234: a command word other than 0 to 5 raises CmdError(ILLEGAL) in every state, before
every other check. -/
def Obligations.IllegalCommandWordRaisesIllegal : Prop :=
  ∀ (s : State) (w : Word), 6 ≤ w.toNat →
    exec (.wrCmd w) s =
      .next { s with b := { s.b with errCode := 1, errIf := true }, resp := .done } ∧
    takeEvent (.host (.cmd w)) s =
      .next { s with b := { s.b with errCode := 1, errIf := true }, resp := .done }

/-- R73, R201, R234: a command 1 to 5 while STATE is not IDLE raises CmdError(BUSY), whatever
INIT_DONE is, and the running command goes on. -/
def Obligations.CommandWhileBusyIsRejected : Prop :=
  ∀ (s : State) (i : Instr), s.b.state ≠ .idle →
    i ∈ [.init, .extractBit, .extractWord, .harvest, .getWord, .wrCmd 1#32, .wrCmd 2#32,
      .wrCmd 3#32, .wrCmd 4#32, .wrCmd 5#32] →
    exec i s = .next { s with b := { s.b with errCode := 2, errIf := true }, resp := .done }

/-- R201, R234: EXTRACT_BIT, EXTRACT_WORD and HARVEST before initialization raise
CmdError(NOT_INIT). -/
def Obligations.ExtractAndHarvestBeforeInitAreRejected : Prop :=
  ∀ (s : State) (i : Instr), s.b.state = .idle → s.b.initDone = false →
    i ∈ [.extractBit, .extractWord, .harvest, .wrCmd 2#32, .wrCmd 3#32, .wrCmd 4#32] →
    exec i s = .next { s with b := { s.b with errCode := 3, errIf := true }, resp := .done }

/-- R150, R201: INIT in IDLE before initialization starts the fill. -/
def Obligations.InitStartsTheFill : Prop :=
  ∀ (s : State) (i : Instr), s.b.state = .idle → s.b.initDone = false →
    i ∈ [.init, .wrCmd 1#32] →
    exec i s = .next
      { s with
        b := { s.b with
               errCode := 0, op := 1, state := .initFill, fillIdx := 0, retry := 0, vnph := false }
        resp := .done }

/-- R150: INIT after initialization completes at once and touches nothing but DONEIF and ERR_CODE. That
the internal RETRY too is left is read from R150's pseudocode against the general sentence of R201
(entry 12). The premises are the model's invariants in IDLE. -/
def Obligations.InitAgainCompletesAtOnce : Prop :=
  ∀ (s : State) (i : Instr), s.b.state = .idle → s.b.initDone = true →
    s.b.opAgrees → s.b.wordAgrees → s.condAgrees → i ∈ [.init, .wrCmd 1#32] →
    exec i s = .next { s with b := { s.b with errCode := 0, doneIf := true }, resp := .done }

/-- R115, R142, R161, R201: the acceptance of EXTRACT_BIT, EXTRACT_WORD and HARVEST. -/
def Obligations.ExtractAndHarvestAreAccepted : Prop :=
  ∀ s : State, s.b.state = .idle → s.b.initDone = true →
    (∀ i ∈ [Instr.extractBit, .wrCmd 2#32], exec i s = .next
      { s with
        b := { s.b with op := 2, state := .xbit, retry := 0, vnph := false, errCode := 0 }
        resp := .done }) ∧
    (∀ i ∈ [Instr.extractWord, .wrCmd 3#32], exec i s = .next
      { s with
        b := { s.b with
               op := 3, state := .xword, sr := 0, bitcnt := 0, retry := 0, vnph := false
               errCode := 0 }
        resp := .done }) ∧
    (∀ i ∈ [Instr.harvest, .wrCmd 4#32], exec i s = .next
      { s with
        b := { s.b with errCode := 0, op := 4, retry := 0, vnph := false, state := .hArm }
        resp := .done })

/-- R175, R201: the acceptance of GET_WORD, which initializes first where INIT_DONE = 0. -/
def Obligations.GetWordIsAcceptedWithOrWithoutInit : Prop :=
  ∀ (s : State) (i : Instr), s.b.state = .idle → i ∈ [.getWord, .wrCmd 5#32] →
    exec i s = .next
      { s with
        b := if s.b.initDone then
               { s.b with errCode := 0, op := 5, retry := 0, vnph := false, state := .hArm }
             else
               { s.b with
                 errCode := 0, op := 5, retry := 0, vnph := false, state := .initFill, fillIdx := 0 }
        resp := .done }

/-- R80, R201: a write of CMD does what its command word does, in either format. -/
def Obligations.WrCmdDoesWhatItsCommandDoes : Prop :=
  ∀ (s : State) (w : Word),
    (∀ i, decode (.cmd w) = .ok i → exec (.wrCmd w) s = exec i s) ∧
    takeEvent (.host (.bus 0x500#11 w)) s = takeEvent (.host (.cmd w)) s ∧
    ∃ t, exec (.wrCmd w) s = .next t

/-! Reads -/

/-- R211: the value of STATUS, field by field, and no state change. -/
def Obligations.StatusReadsItsFields : Prop :=
  ∀ s : State, ∃ w : Word, exec .rdStatus s = .next { s with resp := .data w } ∧
    w.toNat =
      65536 * (match s.b.state with
        | .idle => 0 | .initFill => 1 | .initDiscard => 2 | .xbit => 3 | .xword => 4 | .hArm => 5
        | .hSeed => 6 | .hStart => 7 | .hClear => 8 | .hWait => 9 | .hRead => 10)
      + 256 * s.b.errCode.toNat + 16 * s.b.accIe.toNat + 8 * s.b.accClkEn.toNat
      + 4 * s.b.prngDone.toNat + 2 * s.b.initDone.toNat
      + (if s.b.state = .idle then 0 else 1)

/-- R212, R213: the values of CTRL (an enable whose unit is absent reads 0, R40) and INTSTS, and no
state change. -/
def Obligations.CtrlAndIntstsReadTheirFields : Prop :=
  ∀ s : State,
    (∃ w : Word, exec .rdCtrl s = .next { s with resp := .data w } ∧
      w.toNat =
        (if s.par.cond = .rct ∨ s.par.cond = .vnRct then 32 * s.b.rcten.toNat else 0)
        + (if s.par.cond = .vn ∨ s.par.cond = .vnRct then 16 * s.b.vnen.toNat else 0)
        + 8 * s.b.aesIe.toNat + 4 * s.b.hlthIe.toNat + 2 * s.b.errIe.toNat + s.b.doneIe.toNat) ∧
    (∃ w : Word, exec .rdIntsts s = .next { s with resp := .data w } ∧
      w.toNat = 8 * s.b.aesIf.toNat + 4 * s.b.hlthIf.toNat + 2 * s.b.errIf.toNat + s.b.doneIf.toNat)

/-- R210, R214 to R221: the registers that are one field, zero-extended, and no state change. -/
def Obligations.PlainRegistersReadTheirValue : Prop :=
  ∀ s : State,
    exec .rdCmd s = .next { s with resp := .data 0x00000000#32 } ∧
    exec .rdResult s = .next { s with resp := .data s.b.result } ∧
    exec .rdSeed s = .next { s with resp := .data s.b.sr } ∧
    exec .rdSum s = .next { s with resp := .data (BitVec.ofNat 32 s.b.sum.toNat) } ∧
    exec .rdCursor s = .next { s with resp := .data (BitVec.ofNat 32 s.b.cursor.toNat) } ∧
    exec .rdBandLo s = .next { s with resp := .data (BitVec.ofNat 32 s.b.bandLo.toNat) } ∧
    exec .rdBandHi s = .next { s with resp := .data (BitVec.ofNat 32 s.b.bandHi.toNat) } ∧
    exec .rdLasts s = .next { s with resp := .data (BitVec.ofNat 32 s.b.lasts.toNat) } ∧
    exec .rdRejcnt s = .next { s with resp := .data s.b.rejcnt }

/-- R222, R223: every OUT word and every window slot, by its index, and no state change. -/
def Obligations.OutAndWinReadTheirElement : Prop :=
  ∀ s : State,
    (∀ (k : Nat) (h : k < 8),
      exec (.rdOut (BitVec.ofNat 3 k)) s = .next { s with resp := .data s.b.out[k] }) ∧
    (∀ (i : Nat) (h : i < 32),
      exec (.rdWin (BitVec.ofNat 5 i)) s =
        .next { s with resp := .data (BitVec.ofNat 32 s.b.win[i].toNat) })

/-! Writes -/

/-- R203: a write of CTRL, in every STATE. -/
def Obligations.CtrlWriteSetsTheEnables : Prop :=
  ∀ (s : State) (w : Word), exec (.wrCtrl w) s = .next
    { s with
      b := { s.b with
             doneIe := w.getLsbD 0
             errIe := w.getLsbD 1
             hlthIe := w.getLsbD 2
             aesIe := w.getLsbD 3
             vnen := if s.par.cond = .vn ∨ s.par.cond = .vnRct then w.getLsbD 4 else false
             rcten := if s.par.cond = .rct ∨ s.par.cond = .vnRct then w.getLsbD 5 else false
             rctCnt :=
               if (s.par.cond = .rct ∨ s.par.cond = .vnRct) ∧ w.getLsbD 5 = false then 0
               else s.b.rctCnt }
      resp := .done }

/-- R204, R205, R206: write-one-to-clear of INTSTS; the band registers take bits [11:0]. -/
def Obligations.IntstsAndBandWrites : Prop :=
  ∀ (s : State) (w : Word),
    exec (.wrIntsts w) s = .next
      { s with
        b := { s.b with
               doneIf := if w.getLsbD 0 then false else s.b.doneIf
               errIf := if w.getLsbD 1 then false else s.b.errIf
               hlthIf := if w.getLsbD 2 then false else s.b.hlthIf
               aesIf := if w.getLsbD 3 then false else s.b.aesIf }
        resp := .done } ∧
    exec (.wrBandLo w) s = .next
      { s with b := { s.b with bandLo := BitVec.ofNat 12 (w.toNat % 4096) }, resp := .done } ∧
    exec (.wrBandHi w) s = .next
      { s with b := { s.b with bandHi := BitVec.ofNat 12 (w.toNat % 4096) }, resp := .done }

/-- R224 to R232: writes to read-only registers complete and change nothing. -/
def Obligations.ReadOnlyRegistersIgnoreWrites : Prop :=
  ∀ (s : State) (w : Word) (k : BitVec 3) (i : BitVec 5) (x : Instr),
    x ∈ [.wrStatus w, .wrResult w, .wrSeed w, .wrSum w, .wrCursor w, .wrLasts w, .wrRejcnt w,
      .wrOut k w, .wrWin i w] →
    exec x s = .next { s with resp := .done }

/-! Frames -/

/-- R116: no event but a SEQ step (and the reset) changes the window, SUM or CURSOR. -/
def Obligations.OnlySeqWritesTheWindow : Prop :=
  ∀ (e : Event) (s t : State), takeEvent e s = .next t → (∀ d, e ≠ .seq d) → e ≠ .reset →
    t.b.win = s.b.win ∧ t.b.sum = s.b.sum ∧ t.b.cursor = s.b.cursor

/-- R285 and the write lists of the rules of BCSH's registers: every access answers a next state,
and leaves everything a HOST access may not write. -/
def Obligations.EveryAccessCompletesAndLeavesTheRest : Prop :=
  ∀ (i : Instr) (s : State), ∃ t, exec i s = .next t ∧
    t.par = s.par ∧ t.acc = s.acc ∧ t.adcConfigured = s.adcConfigured ∧ t.sw = s.sw ∧
    t.inbox = s.inbox ∧ t.tick = s.tick ∧
    t.b.win = s.b.win ∧ t.b.sum = s.b.sum ∧ t.b.cursor = s.b.cursor ∧
    t.b.initDone = s.b.initDone ∧ t.b.result = s.b.result ∧ t.b.out = s.b.out ∧
    t.b.lasts = s.b.lasts ∧ t.b.rejcnt = s.b.rejcnt ∧ t.b.prngDone = s.b.prngDone ∧
    t.b.accClkEn = s.b.accClkEn ∧ t.b.accIe = s.b.accIe ∧ t.b.hlthIf = (t.b.hlthIf && s.b.hlthIf) ∧
    t.b.aesIf = (t.b.aesIf && s.b.aesIf) ∧ t.b.vnb1 = s.b.vnb1 ∧ t.b.rctLast = s.b.rctLast

/-! The corrector and the conditioner -/

/-- R103, R104: a sample out of band, no retry bound reached: the two counters, saturating, and
nothing else. -/
def Obligations.OutOfBandSampleOnlyCounts : Prop :=
  ∀ (s : State) (d : Sample), s.adcConfigured = true →
    s.b.state ∈ [SeqState.initDiscard, .xbit, .xword, .hSeed] →
    (d.toNat < s.b.bandLo.toNat ∨ s.b.bandHi.toNat < d.toNat) →
    (∀ l, s.par.retryLimit = some l → min (s.b.retry.toNat + 1) 0xFFFFFFFF < l) →
    takeEvent (.seq d) s = .next
      { s with
        b := { s.b with
               rejcnt := BitVec.ofNat 32 (min (s.b.rejcnt.toNat + 1) 0xFFFFFFFF)
               retry := BitVec.ofNat 32 (min (s.b.retry.toNat + 1) 0xFFFFFFFF) } }

/-- R105, R209: the rejection that brings RETRY to the bound aborts the command with code 4. -/
def Obligations.RetryLimitAbortsTheCommand : Prop :=
  ∀ (s : State) (d : Sample) (l : Nat), s.adcConfigured = true →
    s.b.state ∈ [SeqState.initDiscard, .xbit, .xword, .hSeed] →
    (d.toNat < s.b.bandLo.toNat ∨ s.b.bandHi.toNat < d.toNat) →
    s.par.retryLimit = some l → l ≤ min (s.b.retry.toNat + 1) 0xFFFFFFFF →
    takeEvent (.seq d) s = .next
      { s with
        b := { s.b with
               rejcnt := BitVec.ofNat 32 (min (s.b.rejcnt.toNat + 1) 0xFFFFFFFF)
               retry := BitVec.ofNat 32 (min (s.b.retry.toNat + 1) 0xFFFFFFFF)
               errCode := 4, errIf := true, accIe := false, sr := 0, bitcnt := 0, fillIdx := 0
               vnph := false, state := .idle, op := 0 } }

/-- R106 to R109, R115, R208: without a conditioner at work, one accepted sample ends EXTRACT_BIT:
the bit is 1 iff SUM / 32, truncated, is at least the sample, and the sample replaces the slot at
CURSOR. -/
def Obligations.ExtractBitComparesAndInserts : Prop :=
  ∀ (s : State) (d : Sample), s.adcConfigured = true → s.b.state = .xbit →
    s.b.bandLo.toNat ≤ d.toNat → d.toNat ≤ s.b.bandHi.toNat →
    (s.par.cond = .none ∨ (s.b.vnen = false ∧ s.b.vnph = false ∧ s.b.rcten = false)) →
    s.b.sumExact →
    takeEvent (.seq d) s = .next
      { s with
        b := { s.b with
               retry := 0, lasts := d
               win := s.b.win.set s.b.cursor.toNat d s.b.cursor.isLt
               sum := BitVec.ofNat 17
                 (s.b.sum.toNat - (s.b.win[s.b.cursor.toNat]'s.b.cursor.isLt).toNat + d.toNat)
               cursor := BitVec.ofNat 5 ((s.b.cursor.toNat + 1) % 32)
               result := if d.toNat ≤ s.b.sum.toNat / 32 then 1 else 0
               doneIf := true, state := .idle, op := 0, bitcnt := 0, fillIdx := 0, vnph := false } }

/-- R132, R133, R136, R137, R141: an in-band sample in every state that tests the band, with the
corrector's bit. It always enters the window. Where the extractor exists, the first bit of a pair is
kept and nothing is delivered, and an equal second bit closes the pair with nothing delivered. An
unequal second bit delivers the first; with no pair open the bit passes through where the extractor is
disabled, and always where it is absent. A delivered bit ends EXTRACT_BIT, and is shifted into SR in
the three word states, where the 32nd ends the word. -/
def Obligations.VonNeumannPairsDropOrDeliver : Prop :=
  ∀ (s : State) (d : Sample) (bit : Bool), s.adcConfigured = true →
    s.b.state ∈ [SeqState.initDiscard, .xbit, .xword, .hSeed] →
    s.b.bandLo.toNat ≤ d.toNat → d.toNat ≤ s.b.bandHi.toNat →
    bit = decide (d.toNat ≤ s.b.sum.toNat / 32) →
    ∃ t, takeEvent (.seq d) s = .next t ∧
      t.b.win = s.b.win.set s.b.cursor.toNat d s.b.cursor.isLt ∧ t.b.lasts = d ∧ t.b.retry = 0 ∧
      ((s.par.cond = .vn ∨ s.par.cond = .vnRct) → s.b.vnph = false → s.b.vnen = true →
        t.b.vnph = true ∧ t.b.vnb1 = bit ∧
        t.b.state = s.b.state ∧ t.b.sr = s.b.sr ∧ t.b.bitcnt = s.b.bitcnt ∧
        t.b.result = s.b.result ∧ t.b.doneIf = s.b.doneIf) ∧
      ((s.par.cond = .vn ∨ s.par.cond = .vnRct) → s.b.vnph = true → s.b.vnb1 = bit →
        t.b.vnph = false ∧ t.b.state = s.b.state ∧ t.b.sr = s.b.sr ∧ t.b.bitcnt = s.b.bitcnt ∧
        t.b.result = s.b.result ∧ t.b.doneIf = s.b.doneIf) ∧
      (∀ c : Bool,
        ((s.par.cond = .vn ∨ s.par.cond = .vnRct) ∧ s.b.vnph = true ∧ s.b.vnb1 ≠ bit ∧ c = s.b.vnb1) ∨
          ((s.par.cond = .none ∨ s.par.cond = .rct ∨ s.b.vnph = false ∧ s.b.vnen = false) ∧ c = bit) →
        ((s.par.cond = .vn ∨ s.par.cond = .vnRct) → t.b.vnph = false) ∧
        (s.b.state = .xbit → t.b.state = .idle ∧ t.b.doneIf = true ∧ t.b.result.toNat = c.toNat) ∧
        (s.b.state ≠ .xbit → s.b.bitcnt.toNat < 31 →
          t.b.sr.toNat = (2 * s.b.sr.toNat + c.toNat) % 2 ^ 32 ∧
          t.b.bitcnt.toNat = s.b.bitcnt.toNat + 1 ∧ t.b.state = s.b.state ∧
          t.b.result = s.b.result ∧ t.b.doneIf = s.b.doneIf) ∧
        (s.b.state = .xword → s.b.bitcnt = 31 →
          t.b.state = .idle ∧ t.b.doneIf = true ∧ t.b.sr = 0 ∧ t.b.bitcnt = 0 ∧
          t.b.result.toNat = (2 * s.b.sr.toNat + c.toNat) % 2 ^ 32) ∧
        (s.b.state = .hSeed → s.b.bitcnt = 31 →
          t.b.state = .hStart ∧ t.b.sr.toNat = (2 * s.b.sr.toNat + c.toNat) % 2 ^ 32 ∧
          t.b.bitcnt = 0 ∧ t.b.result = s.b.result ∧ t.b.doneIf = s.b.doneIf) ∧
        (s.b.state = .initDiscard → s.b.bitcnt = 31 →
          t.b.initDone = true ∧ t.b.sr = 0 ∧ t.b.bitcnt = 0 ∧ t.b.result = s.b.result ∧
          (s.b.op = 1 → t.b.state = .idle ∧ t.b.doneIf = true) ∧
          (s.b.op = 5 → t.b.state = .hArm ∧ t.b.doneIf = s.b.doneIf)))

/-- R139: the repetition-count test on an accepted sample where it exists; frozen while disabled;
rejected samples and fill samples are not observed. -/
def Obligations.RepetitionCountFollowsAcceptedSamples : Prop :=
  ∀ (s : State) (d : Sample), s.adcConfigured = true →
    (s.par.cond = .rct ∨ s.par.cond = .vnRct) →
    s.b.state ∈ [SeqState.initFill, .initDiscard, .xbit, .xword, .hSeed] →
    ∃ t, takeEvent (.seq d) s = .next t ∧
      if s.b.rcten = true ∧ s.b.state ≠ .initFill ∧
          s.b.bandLo.toNat ≤ d.toNat ∧ d.toNat ≤ s.b.bandHi.toNat then
        t.b.rctLast = d ∧
        t.b.rctCnt.toNat =
          (if s.b.rctCnt.toNat ≠ 0 ∧ d = s.b.rctLast then min (s.b.rctCnt.toNat + 1) 0xFFFF else 1) ∧
        (t.b.hlthIf = true ↔ s.b.hlthIf = true ∨ s.par.rctCutoff ≤ t.b.rctCnt.toNat)
      else
        t.b.rctLast = s.b.rctLast ∧ t.b.rctCnt = s.b.rctCnt ∧ t.b.hlthIf = s.b.hlthIf

/-- R111: after initialization, a draw accepted in slot CURSOR stays in it over any further events of
any agent without a reset, commands begun and ended among them, as long as with it at most 32 samples
have been accepted; CURSOR is back at the slot exactly after the 32nd, and the next accepted sample
evicts it. -/
def Obligations.EvictionIsFirstInFirstOut : Prop :=
  ∀ (s t : State) (d : Sample) (es : List Event), s.adcConfigured = true → s.b.initDone = true →
    s.accepts (.seq d) = true → Event.reset ∉ es → takeEvents (.seq d :: es) s = .next t →
    acceptedSamples (.seq d :: es) s ≤ 32 →
    windowSlot t.b.win s.b.cursor = d ∧
    (t.b.cursor = s.b.cursor ↔ acceptedSamples (.seq d :: es) s = 32) ∧
    ∀ d' : Sample, t.b.cursor = s.b.cursor → t.accepts (.seq d') = true →
      ∃ u, takeEvent (.seq d') t = .next u ∧ windowSlot u.b.win s.b.cursor = d'

/-- R105, R114: with an empty band and no retry bound no sequence of draws ends the command. -/
def Obligations.EmptyBandNeverCompletes : Prop :=
  ∀ (ds : List Sample) (s : State), s.adcConfigured = true →
    s.b.state ∈ [SeqState.initDiscard, .xbit, .xword, .hSeed] →
    s.b.bandHi.toNat < s.b.bandLo.toNat → s.par.retryLimit = none →
    ∃ t, takeEvents (ds.map .seq) s = .next t ∧ t.b.state = s.b.state ∧ t.b.win = s.b.win ∧
      t.b.sum = s.b.sum ∧ t.b.cursor = s.b.cursor ∧ t.b.result = s.b.result ∧
      t.b.rejcnt.toNat = min (s.b.rejcnt.toNat + ds.length) 0xFFFFFFFF

/-! Invariants -/

/-- R22: `SUM == Σ WIN` at every step boundary. -/
def Obligations.SumStaysExact : Prop :=
  ∀ s t : State, s.b.sumExact → step s = .next t → t.b.sumExact

/-- R34, R201, R153: OP and INIT_DONE stay in agreement with STATE. -/
def Obligations.OpStaysInAgreementWithState : Prop :=
  ∀ s t : State, s.b.opAgrees → step s = .next t → t.b.opAgrees

/-- R25, R134: SR holds only delivered bits and reads 0 outside a word; BITCNT and FILLIDX stay below
32 and 0 where they are unused. -/
def Obligations.SeedRegisterHoldsOnlyDeliveredBits : Prop :=
  ∀ s t : State, s.b.wordAgrees → step s = .next t → t.b.wordAgrees

/-- R38: ACC_IE is 1 exactly from H_ARM's step to H_READ's, and the clock is on with it. -/
def Obligations.AccIeStaysWithTheHarvest : Prop :=
  ∀ s t : State, s.b.accIeAgrees → step s = .next t → t.b.accIeAgrees

/-- R135, R208, R233: absent conditioner units stay 0 (entry 13), no pair is open in IDLE, and
ERR_CODE stays a named code. -/
def Obligations.ConditionerAndErrCodeStayLegal : Prop :=
  ∀ s t : State, s.condAgrees → step s = .next t → t.condAgrees

/-- R180: under CLEAR_THEN_START a completion is always coming, pending or recorded while a harvest
waits, so no harvest hangs with nothing coming. -/
def Obligations.NoCompletionIsLostUnderClearThenStart : Prop :=
  (∀ s t : State, s.completionAhead → step s = .next t → t.completionAhead) ∧
  (∀ s : State, s.completionAhead → s.par.clearOrder = .clearThenStart → ¬ s.hung)

/-- The host's memory keeps its canonical form (entry 17). -/
def Obligations.HostMemoryStaysCanonical : Prop :=
  ∀ s t : State, s.sw.mem.wf = true → step s = .next t → t.sw.mem.wf = true

/-- Every invariant stated above holds at reset, and reset is a launch state of R280. -/
def Obligations.ResetMeetsEveryInvariant : Prop :=
  State.reset.b.sumExact ∧ State.reset.b.opAgrees ∧ State.reset.b.wordAgrees ∧
  State.reset.b.accIeAgrees ∧ State.reset.condAgrees ∧ State.reset.completionAhead ∧
  State.reset.sw.mem.wf = true ∧ State.reset.launch

/-! Whole commands -/

/-- R151, R152: 32 fill samples, whatever the band, fill the slots in order. -/
def Obligations.FillPlacesTheSamplesInOrder : Prop :=
  ∀ (s : State) (ds : List Sample), s.adcConfigured = true → s.b.state = .initFill →
    s.b.fillIdx = 0 → s.b.sumExact → ds.length = 32 →
    ∃ w : Window, w.toList = ds ∧
      takeEvents (ds.map .seq) s = .next
        { s with
          b := { s.b with
                 win := w, sum := BitVec.ofNat 17 (ds.map BitVec.toNat).sum, cursor := 0
                 fillIdx := 0, state := .initDiscard, sr := 0, bitcnt := 0 } }

/-- R150 to R153, R175: with no von Neumann extractor at work, INIT or GET_WORD from IDLE before
initialization, 32 fill draws and 32 in-band draws initialize the window. INIT then completes;
GET_WORD goes on to H_ARM with no DONEIF. -/
def Obligations.InitRunsToCompletion : Prop :=
  ∀ (s : State) (w : Word) (fill rest : List Sample), s.adcConfigured = true →
    (s.par.cond = .none ∨ s.par.cond = .rct ∨ s.b.vnen = false) →
    s.b.state = .idle → s.b.initDone = false → s.b.sumExact → (w = 1 ∨ w = 5) →
    fill.length = 32 → rest.length = 32 →
    (∀ d ∈ rest, s.b.bandLo.toNat ≤ d.toNat ∧ d.toNat ≤ s.b.bandHi.toNat) →
    ∃ t, takeEvents (.host (.cmd w) :: (fill ++ rest).map .seq) s = .next t ∧
      t.b.initDone = true ∧ t.b.errCode = 0 ∧ t.b.win.toList = rest ∧ t.b.sumExact ∧
      t.b.cursor = 0 ∧ t.b.sr = 0 ∧ t.b.bitcnt = 0 ∧ t.b.fillIdx = 0 ∧
      t.b.result = s.b.result ∧ t.b.rejcnt = s.b.rejcnt ∧ t.acc = s.acc ∧
      (w = 1 → t.b.state = .idle ∧ t.b.op = 0 ∧ t.b.doneIf = true) ∧
      (w = 5 → t.b.state = .hArm ∧ t.b.op = 5 ∧ t.b.doneIf = s.b.doneIf)

/-- R134, R142: with no von Neumann extractor at work, 32 in-band draws after EXTRACT_WORD, from any
CURSOR: RESULT's bit 31 - i is 1 iff draw i is at most the truncated average of the window as it then
stands (the first i draws, and of the 32 samples before them all but the i oldest), and the draws are
then the window, oldest first. -/
def Obligations.ExtractWordAssemblesTheBits : Prop :=
  ∀ (s : State) (ds : List Sample), s.adcConfigured = true →
    (s.par.cond = .none ∨ s.par.cond = .rct ∨ s.b.vnph = false ∧ s.b.vnen = false) →
    s.b.state = .xword → s.b.sr = 0 → s.b.bitcnt = 0 → s.b.sumExact → ds.length = 32 →
    (∀ d ∈ ds, s.b.bandLo.toNat ≤ d.toNat ∧ d.toNat ≤ s.b.bandHi.toNat) →
    ∃ t, takeEvents (ds.map .seq) s = .next t ∧
      (∀ i (h : i < ds.length), t.b.result.getLsbD (31 - i) =
        decide (ds[i].toNat ≤ (((ds.take i).map BitVec.toNat).sum +
          ((s.b.oldestFirst.drop i).map BitVec.toNat).sum) / 32)) ∧
      t.b.oldestFirst = ds ∧ t.b.cursor = s.b.cursor ∧ t.b.sumExact ∧ t.b.sr = 0 ∧
      t.b.state = .idle ∧ t.b.doneIf = true ∧ t.acc = s.acc

/-- R161 to R172, R175: with no von Neumann extractor at work, under either P_CLEAR_ORDER and from any
CURSOR, the steps of a harvest from H_ARM with 32 in-band draws, the accelerator idle, its completion
with block `o` after the clear, and one DISP step: the seed of Start has draw i's bit at 31 - i, OUT is
the block (PRNG_FN of the seed where it is given), and GET_WORD's RESULT its first word. -/
def Obligations.HarvestDeliversTheBlock : Prop :=
  ∀ (s : State) (ds : List Sample) (o : Block) (d0 d1 d2 d3 d4 : Sample), s.adcConfigured = true →
    (s.par.cond = .none ∨ s.par.cond = .rct ∨ s.b.vnph = false ∧ s.b.vnen = false) →
    s.b.state = .hArm → s.b.sumExact → s.acc.busy = false → ds.length = 32 →
    (∀ d ∈ ds, s.b.bandLo.toNat ≤ d.toNat ∧ d.toNat ≤ s.b.bandHi.toNat) →
    ∃ (t : State) (seed : Word),
      takeEvents (.seq d0 :: (ds.map .seq ++ .seq d1 ::
        ((match s.par.clearOrder with
          | .clearThenStart => []
          | .startThenClear => [.seq d2]) ++
        [.accDone o, .disp, .seq d3, .seq d4]))) s = .next t ∧
      (∀ i (h : i < ds.length), seed.getLsbD (31 - i) =
        decide (ds[i].toNat ≤ (((ds.take i).map BitVec.toNat).sum +
          ((s.b.oldestFirst.drop i).map BitVec.toNat).sum) / 32)) ∧
      t.acc.start = some ⟨seed, s.par.mode256Code, true⟩ ∧ t.acc.busy = false ∧
      t.b.out = (if s.par.prngFnGiven then Config.prngFn seed else o) ∧
      t.b.result = (if s.b.op = 5 then t.b.out[0] else s.b.result) ∧
      t.b.oldestFirst = ds ∧ t.b.cursor = s.b.cursor ∧ t.b.sumExact ∧
      t.b.state = .idle ∧ t.b.doneIf = true ∧ t.b.accIe = false ∧ t.b.accClkEn = true ∧
      t.b.prngDone = true ∧ t.b.sr = 0

/-! The harvest states, DISP and the accelerator -/

/-- R163, R166, R167: H_ARM, H_CLEAR and H_WAIT, in which SEQ has a step only with PRNG_DONE = 1. That
an event of SEQ then changes nothing is the model's choice (entry 6). -/
def Obligations.ArmClearAndWaitSteps : Prop :=
  ∀ (s : State) (d : Sample),
    (s.b.state = .hArm → takeEvent (.seq d) s = .next
      { s with
        b := { s.b with
               accClkEn := true, accIe := true, state := .hSeed, sr := 0, bitcnt := 0 } }) ∧
    (s.b.state = .hClear → takeEvent (.seq d) s = .next
      { s with b := { s.b with prngDone := false, state := .hWait } }) ∧
    (s.b.state = .hWait → s.b.prngDone = true → takeEvent (.seq d) s = .next
      { s with b := { s.b with state := .hRead } }) ∧
    (s.b.state = .hWait → s.b.prngDone = false → takeEvent (.seq d) s = .next s)

/-- R165, R169: H_START under each P_CLEAR_ORDER; with the accelerator busy the model refuses, of
which the spec says nothing (93_implementation_defined.md I9, entry 8). -/
def Obligations.StartSendsTheSeed : Prop :=
  ∀ (s : State) (d : Sample), s.b.state = .hStart →
    (s.acc.busy = false → s.par.clearOrder = .clearThenStart → takeEvent (.seq d) s = .next
      { s with
        b := { s.b with prngDone := false, sr := 0, state := .hWait }
        acc := { s.acc with busy := true, start := some ⟨s.b.sr, s.par.mode256Code, true⟩ } }) ∧
    (s.acc.busy = false → s.par.clearOrder = .startThenClear → takeEvent (.seq d) s = .next
      { s with
        b := { s.b with sr := 0, state := .hClear }
        acc := { s.acc with busy := true, start := some ⟨s.b.sr, s.par.mode256Code, true⟩ } }) ∧
    (s.acc.busy = true → takeEvent (.seq d) s = .refused .startWhileAccBusy)

/-- R168, R208: H_READ. -/
def Obligations.ReadTakesTheWholeBlock : Prop :=
  ∀ (s : State) (d : Sample), s.b.state = .hRead → takeEvent (.seq d) s = .next
    { s with
      b := { s.b with
             out := s.acc.out, accIe := false
             result := if s.b.op = 5 then s.acc.out[0] else s.b.result
             doneIf := true, state := .idle, op := 0, bitcnt := 0, fillIdx := 0, vnph := false } }

/-- R167, R174: while PRNG_DONE = 0 no event but the reset ends H_WAIT, and only a DISP step that
serves the engine's own completion sets the flag. -/
def Obligations.OnlyTheRightCompletionEndsTheWait : Prop :=
  ∀ (e : Event) (s t : State), s.b.state = .hWait → s.b.prngDone = false →
    takeEvent e s = .next t → e ≠ .reset →
    t.b.state = .hWait ∧ (t.b.prngDone = true ↔ e = .disp ∧ s.accIrq = true ∧ s.acc.prngIf = true)

/-- R172, R173: DISP's step. With acc_irq = 0 it has none; that an event of DISP then changes nothing is
the model's choice (entry 6). -/
def Obligations.DispServesOneSourcePrngFirst : Prop :=
  ∀ s : State, takeEvent .disp s = .next
    (if (s.acc.prngIf = true ∧ s.b.accIe = true) ∨ (s.acc.aesIf = true ∧ s.acc.aesIe = true) then
      if s.acc.prngIf = true then
        { s with b := { s.b with prngDone := true }, acc := { s.acc with prngIf := false } }
      else { s with b := { s.b with aesIf := true }, acc := { s.acc with aesIf := false } }
    else s)

/-- R170, R171: the accelerator's completion, for any draw (or PRNG_FN's block of the last seed where
it is given; without a recorded Start the model takes the draw, entry 16), and its AES events. -/
def Obligations.AcceleratorCompletesAndRaisesAes : Prop :=
  ∀ (s : State) (o : Block) (on : Bool) (ev : StartEvent),
    (s.acc.busy = true → s.par.prngFnGiven = false → takeEvent (.accDone o) s = .next
      { s with acc := { s.acc with out := o, prngIf := true, busy := false } }) ∧
    (s.acc.busy = true → s.par.prngFnGiven = true → s.acc.start = some ev →
      takeEvent (.accDone o) s = .next
        { s with acc := { s.acc with out := Config.prngFn ev.seed, prngIf := true, busy := false } }) ∧
    (s.acc.busy = false → takeEvent (.accDone o) s = .next s) ∧
    takeEvent .accAesDone s = .next { s with acc := { s.acc with aesIf := true } } ∧
    takeEvent (.accAesIe on) s = .next { s with acc := { s.acc with aesIe := on } }

/-- R180: under START_THEN_CLEAR a completion served between the Start and the clear is lost. -/
def Obligations.CompletionIsLostUnderStartThenClear : Prop :=
  ∀ (s : State) (o : Block) (d d' : Sample), s.par.clearOrder = .startThenClear →
    s.b.state = .hStart → s.b.accIe = true → s.acc.busy = false →
    ∃ t, takeEvents [.seq d, .accDone o, .disp, .seq d'] s = .next t ∧ t.hung

/-- R176, R180, R238: a hang lasts until the reset; every event keeps it. -/
def Obligations.OnlyResetEndsAHang : Prop :=
  ∀ (e : Event) (s t : State), s.hung → takeEvent e s = .next t →
    (e ≠ .reset → t.hung) ∧ (e = .reset → t.b.state = .idle)

/-! Who writes what -/

/-- R37, R69: DISP alone sets PRNG_DONE; SEQ alone clears it, in H_START or H_CLEAR (and the reset). -/
def Obligations.PrngDoneIsSetByDispClearedBySeq : Prop :=
  ∀ (e : Event) (s t : State), takeEvent e s = .next t →
    (s.b.prngDone = false → t.b.prngDone = true → e = .disp) ∧
    (s.b.prngDone = true → t.b.prngDone = false →
      e = .reset ∨ (∃ d, e = .seq d) ∧ (s.b.state = .hStart ∨ s.b.state = .hClear))

/-- R28, R207: OUT is written in H_READ only; RESULT only in the step that completes EXTRACT_BIT,
EXTRACT_WORD or GET_WORD; the reset apart. -/
def Obligations.OutAndResultAreWrittenAtCompletion : Prop :=
  ∀ (e : Event) (s t : State), takeEvent e s = .next t → e ≠ .reset →
    (t.b.out ≠ s.b.out → (∃ d, e = .seq d) ∧ s.b.state = .hRead) ∧
    (t.b.result ≠ s.b.result → (∃ d, e = .seq d) ∧ t.b.state = .idle ∧ t.b.doneIf = true ∧
      (s.b.state = .xbit ∨ s.b.state = .xword ∨ s.b.state = .hRead ∧ s.b.op = 5))

/-- R24, R38, R30, R242: INIT_DONE and ACC_CLK_EN fall, and REJCNT decreases, only at a reset; an
INTSTS flag falls only at a reset or by a HOST access, and by an instruction only where it is WR_INTSTS
with that bit 1. -/
def Obligations.StickyStateFallsOnlyAsStated : Prop :=
  (∀ (e : Event) (s t : State), takeEvent e s = .next t → e ≠ .reset →
    (s.b.initDone = true → t.b.initDone = true) ∧ (s.b.accClkEn = true → t.b.accClkEn = true) ∧
    s.b.rejcnt.toNat ≤ t.b.rejcnt.toNat ∧
    ((∀ h, e ≠ .host h) → (∀ a, e ≠ .mem a) →
      (s.b.doneIf = true → t.b.doneIf = true) ∧ (s.b.errIf = true → t.b.errIf = true) ∧
      (s.b.hlthIf = true → t.b.hlthIf = true) ∧ (s.b.aesIf = true → t.b.aesIf = true))) ∧
  (∀ (i : Instr) (s t : State), exec i s = .next t →
    (s.b.doneIf = true → t.b.doneIf = false → ∃ w, i = .wrIntsts w ∧ w.getLsbD 0 = true) ∧
    (s.b.errIf = true → t.b.errIf = false → ∃ w, i = .wrIntsts w ∧ w.getLsbD 1 = true) ∧
    (s.b.hlthIf = true → t.b.hlthIf = false → ∃ w, i = .wrIntsts w ∧ w.getLsbD 2 = true) ∧
    (s.b.aesIf = true → t.b.aesIf = false → ∃ w, i = .wrIntsts w ∧ w.getLsbD 3 = true))

/-- R204, R243, R244: after a write of CTRL irq_out is 1 iff a flag is 1 whose enable the word sets;
after a write of INTSTS iff a flag stays whose bit the word leaves 0 and whose enable is 1. -/
def Obligations.IrqOutFollowsFlagsAndEnables : Prop :=
  ∀ (s : State) (w : Word),
    (∃ t, exec (.wrCtrl w) s = .next t ∧
      (t.b.irqOut = true ↔
        (s.b.doneIf = true ∧ w.getLsbD 0 = true) ∨ (s.b.errIf = true ∧ w.getLsbD 1 = true) ∨
        (s.b.hlthIf = true ∧ w.getLsbD 2 = true) ∨ (s.b.aesIf = true ∧ w.getLsbD 3 = true))) ∧
    (∃ t, exec (.wrIntsts w) s = .next t ∧
      (t.b.irqOut = true ↔
        (s.b.doneIf = true ∧ w.getLsbD 0 = false ∧ s.b.doneIe = true) ∨
        (s.b.errIf = true ∧ w.getLsbD 1 = false ∧ s.b.errIe = true) ∨
        (s.b.hlthIf = true ∧ w.getLsbD 2 = false ∧ s.b.hlthIe = true) ∨
        (s.b.aesIf = true ∧ w.getLsbD 3 = false ∧ s.b.aesIe = true)))

/-! Reset -/

/-- R271, R272: what HOST reads right after a reset, the band's reset values as numbers, irq_out = 0,
and what the reset leaves alone. -/
def Obligations.ResetLeavesTheStatedValues : Prop :=
  ∀ s : State, ∃ t, takeEvent .reset s = .next t ∧
    exec .rdStatus t = .next { t with resp := .data 0x00000000#32 } ∧
    exec .rdCtrl t = .next { t with resp := .data 0x00000000#32 } ∧
    exec .rdIntsts t = .next { t with resp := .data 0x00000000#32 } ∧
    (∀ i ∈ [Instr.rdResult, .rdSeed, .rdSum, .rdCursor, .rdLasts, .rdRejcnt],
      exec i t = .next { t with resp := .data 0x00000000#32 }) ∧
    (∀ k, exec (.rdOut k) t = .next { t with resp := .data 0x00000000#32 }) ∧
    (∀ i, exec (.rdWin i) t = .next { t with resp := .data 0x00000000#32 }) ∧
    t.b.bandLo.toNat = s.par.bandCenter.toNat - s.par.bandTol.toNat ∧
    t.b.bandHi.toNat = min 4095 (s.par.bandCenter.toNat + s.par.bandTol.toNat) ∧
    t.b.retry = 0 ∧ t.b.op = 0 ∧ t.b.bitcnt = 0 ∧ t.b.fillIdx = 0 ∧ t.b.vnen = false ∧
    t.b.rcten = false ∧ t.b.vnph = false ∧ t.b.vnb1 = false ∧ t.b.rctLast = 0 ∧ t.b.rctCnt = 0 ∧
    t.b.irqOut = false ∧ t.acc = s.acc ∧ t.par = s.par ∧ t.adcConfigured = s.adcConfigured

/-! The HOST software -/

/-- R191: poll of length 0 returns success with actual_len = 0 and reaches neither BCSH nor the bus.
That it returns in the step of the call is the model's choice (entry 17). -/
def Obligations.PollOfZeroBytesTouchesNothing : Prop :=
  ∀ (s : State) (dest : Nat), s.sw.pc = .idle →
    ∃ t, takeEvent (.call (.poll dest 0)) s = .next t ∧
      t.sw.pc = .idle ∧ t.sw.actualLen = 0 ∧ t.sw.success = true ∧ t.sw.mem = s.sw.mem ∧
      { t with sw := s.sw } = s

/-- R65, R192: in a whole block, reading OUTk copies its four bytes, the least significant first, to
the destination, and no other byte of host memory changes. -/
def Obligations.PollCopiesAWholeBlockWordByWord : Prop :=
  ∀ s : State, s.sw.pc = .pollRead → s.sw.off + 32 ≤ s.sw.len →
    ∃ t, takeEvent .program s = .next t ∧
      (∀ j < 4, t.sw.mem.read (s.sw.dest + s.sw.off + 4 * s.sw.k.toNat + j) =
        some (BitVec.ofNat 8 ((s.b.out[s.sw.k.toNat]'s.sw.k.isLt).toNat / 256 ^ j))) ∧
      (∀ a, (a < s.sw.dest + s.sw.off + 4 * s.sw.k.toNat ∨
          s.sw.dest + s.sw.off + 4 * s.sw.k.toNat + 4 ≤ a) →
        t.sw.mem.read a = s.sw.mem.read a) ∧
      t.b = s.b ∧ t.acc = s.acc ∧
      (s.sw.k.toNat < 7 → t.sw.pc = .pollRead ∧ t.sw.k.toNat = s.sw.k.toNat + 1 ∧
        t.sw.off = s.sw.off) ∧
      (s.sw.k.toNat = 7 → s.sw.off + 32 < s.sw.len →
        t.sw.pc = .pollHarvest ∧ t.sw.off = s.sw.off + 32) ∧
      (s.sw.k.toNat = 7 → s.sw.off + 32 = s.sw.len →
        t.sw.pc = .idle ∧ t.sw.actualLen = s.sw.len ∧ t.sw.success = true)

/-- R192, R193: in a last, partial block reading OUTk puts its four bytes into the temporary block at
4 k and leaves host memory alone; after the eighth word only the remaining bytes of the temporary block
go to the destination, and poll returns the full length (in the step of the eighth read: entry 17). -/
def Obligations.PollCopiesOnlyTheRemainder : Prop :=
  ∀ s : State, s.sw.pc = .pollRead → s.sw.off < s.sw.len → s.sw.len < s.sw.off + 32 →
    ∃ t, takeEvent .program s = .next t ∧ t.b = s.b ∧ t.acc = s.acc ∧
      (∀ i (h : i < 32), t.sw.tmp[i] =
        if 4 * s.sw.k.toNat ≤ i ∧ i < 4 * s.sw.k.toNat + 4 then
          BitVec.ofNat 8 ((s.b.out[s.sw.k.toNat]'s.sw.k.isLt).toNat / 256 ^ (i - 4 * s.sw.k.toNat))
        else s.sw.tmp[i]) ∧
      (s.sw.k.toNat < 7 → t.sw.mem = s.sw.mem ∧ t.sw.pc = .pollRead ∧
        t.sw.k.toNat = s.sw.k.toNat + 1 ∧ t.sw.off = s.sw.off ∧ t.sw.len = s.sw.len ∧
        t.sw.dest = s.sw.dest) ∧
      (s.sw.k = 7 →
        (∀ i (h : i < 32), i < s.sw.len - s.sw.off →
          t.sw.mem.read (s.sw.dest + s.sw.off + i) = some t.sw.tmp[i]) ∧
        (∀ a, (a < s.sw.dest + s.sw.off ∨ s.sw.dest + s.sw.len ≤ a) →
          t.sw.mem.read a = s.sw.mem.read a) ∧
        t.sw.pc = .idle ∧ t.sw.actualLen = s.sw.len ∧ t.sw.success = true)
end

