-- ==== Sys2Proof/Laws/State.lean ====
section
/-! SUPPORT. One lemma per field per named update of the state, each true by unfolding, so that no
later proof unfolds a record update. -/

namespace Sys2Proof.Machine

@[simp] theorem cmdError_win (c : ErrCause) (b : Bcsh) : (b.cmdError c).win = b.win := rfl
@[simp] theorem cmdError_sum (c : ErrCause) (b : Bcsh) : (b.cmdError c).sum = b.sum := rfl
@[simp] theorem cmdError_cursor (c : ErrCause) (b : Bcsh) : (b.cmdError c).cursor = b.cursor := rfl
@[simp] theorem cmdError_initDone (c : ErrCause) (b : Bcsh) : (b.cmdError c).initDone = b.initDone := rfl
@[simp] theorem cmdError_sr (c : ErrCause) (b : Bcsh) : (b.cmdError c).sr = b.sr := rfl
@[simp] theorem cmdError_bitcnt (c : ErrCause) (b : Bcsh) : (b.cmdError c).bitcnt = b.bitcnt := rfl
@[simp] theorem cmdError_result (c : ErrCause) (b : Bcsh) : (b.cmdError c).result = b.result := rfl
@[simp] theorem cmdError_out (c : ErrCause) (b : Bcsh) : (b.cmdError c).out = b.out := rfl
@[simp] theorem cmdError_bandLo (c : ErrCause) (b : Bcsh) : (b.cmdError c).bandLo = b.bandLo := rfl
@[simp] theorem cmdError_bandHi (c : ErrCause) (b : Bcsh) : (b.cmdError c).bandHi = b.bandHi := rfl
@[simp] theorem cmdError_lasts (c : ErrCause) (b : Bcsh) : (b.cmdError c).lasts = b.lasts := rfl
@[simp] theorem cmdError_rejcnt (c : ErrCause) (b : Bcsh) : (b.cmdError c).rejcnt = b.rejcnt := rfl
@[simp] theorem cmdError_retry (c : ErrCause) (b : Bcsh) : (b.cmdError c).retry = b.retry := rfl
@[simp] theorem cmdError_state (c : ErrCause) (b : Bcsh) : (b.cmdError c).state = b.state := rfl
@[simp] theorem cmdError_op (c : ErrCause) (b : Bcsh) : (b.cmdError c).op = b.op := rfl
@[simp] theorem cmdError_fillIdx (c : ErrCause) (b : Bcsh) : (b.cmdError c).fillIdx = b.fillIdx := rfl
@[simp] theorem cmdError_prngDone (c : ErrCause) (b : Bcsh) : (b.cmdError c).prngDone = b.prngDone := rfl
@[simp] theorem cmdError_accClkEn (c : ErrCause) (b : Bcsh) : (b.cmdError c).accClkEn = b.accClkEn := rfl
@[simp] theorem cmdError_accIe (c : ErrCause) (b : Bcsh) : (b.cmdError c).accIe = b.accIe := rfl
@[simp] theorem cmdError_doneIf (c : ErrCause) (b : Bcsh) : (b.cmdError c).doneIf = b.doneIf := rfl
@[simp] theorem cmdError_errIf (c : ErrCause) (b : Bcsh) : (b.cmdError c).errIf = true := rfl
@[simp] theorem cmdError_hlthIf (c : ErrCause) (b : Bcsh) : (b.cmdError c).hlthIf = b.hlthIf := rfl
@[simp] theorem cmdError_aesIf (c : ErrCause) (b : Bcsh) : (b.cmdError c).aesIf = b.aesIf := rfl
@[simp] theorem cmdError_doneIe (c : ErrCause) (b : Bcsh) : (b.cmdError c).doneIe = b.doneIe := rfl
@[simp] theorem cmdError_errIe (c : ErrCause) (b : Bcsh) : (b.cmdError c).errIe = b.errIe := rfl
@[simp] theorem cmdError_hlthIe (c : ErrCause) (b : Bcsh) : (b.cmdError c).hlthIe = b.hlthIe := rfl
@[simp] theorem cmdError_aesIe (c : ErrCause) (b : Bcsh) : (b.cmdError c).aesIe = b.aesIe := rfl
@[simp] theorem cmdError_errCode (c : ErrCause) (b : Bcsh) : (b.cmdError c).errCode = c.code := rfl
@[simp] theorem cmdError_vnen (c : ErrCause) (b : Bcsh) : (b.cmdError c).vnen = b.vnen := rfl
@[simp] theorem cmdError_rcten (c : ErrCause) (b : Bcsh) : (b.cmdError c).rcten = b.rcten := rfl
@[simp] theorem cmdError_vnph (c : ErrCause) (b : Bcsh) : (b.cmdError c).vnph = b.vnph := rfl
@[simp] theorem cmdError_vnb1 (c : ErrCause) (b : Bcsh) : (b.cmdError c).vnb1 = b.vnb1 := rfl
@[simp] theorem cmdError_rctLast (c : ErrCause) (b : Bcsh) : (b.cmdError c).rctLast = b.rctLast := rfl
@[simp] theorem cmdError_rctCnt (c : ErrCause) (b : Bcsh) : (b.cmdError c).rctCnt = b.rctCnt := rfl

@[simp] theorem complete_win (b : Bcsh) : b.complete.win = b.win := rfl
@[simp] theorem complete_sum (b : Bcsh) : b.complete.sum = b.sum := rfl
@[simp] theorem complete_cursor (b : Bcsh) : b.complete.cursor = b.cursor := rfl
@[simp] theorem complete_initDone (b : Bcsh) : b.complete.initDone = b.initDone := rfl
@[simp] theorem complete_sr (b : Bcsh) : b.complete.sr = b.sr := rfl
@[simp] theorem complete_bitcnt (b : Bcsh) : b.complete.bitcnt = 0 := rfl
@[simp] theorem complete_result (b : Bcsh) : b.complete.result = b.result := rfl
@[simp] theorem complete_out (b : Bcsh) : b.complete.out = b.out := rfl
@[simp] theorem complete_bandLo (b : Bcsh) : b.complete.bandLo = b.bandLo := rfl
@[simp] theorem complete_bandHi (b : Bcsh) : b.complete.bandHi = b.bandHi := rfl
@[simp] theorem complete_lasts (b : Bcsh) : b.complete.lasts = b.lasts := rfl
@[simp] theorem complete_rejcnt (b : Bcsh) : b.complete.rejcnt = b.rejcnt := rfl
@[simp] theorem complete_retry (b : Bcsh) : b.complete.retry = b.retry := rfl
@[simp] theorem complete_state (b : Bcsh) : b.complete.state = .idle := rfl
@[simp] theorem complete_op (b : Bcsh) : b.complete.op = 0 := rfl
@[simp] theorem complete_fillIdx (b : Bcsh) : b.complete.fillIdx = 0 := rfl
@[simp] theorem complete_prngDone (b : Bcsh) : b.complete.prngDone = b.prngDone := rfl
@[simp] theorem complete_accClkEn (b : Bcsh) : b.complete.accClkEn = b.accClkEn := rfl
@[simp] theorem complete_accIe (b : Bcsh) : b.complete.accIe = b.accIe := rfl
@[simp] theorem complete_doneIf (b : Bcsh) : b.complete.doneIf = true := rfl
@[simp] theorem complete_errIf (b : Bcsh) : b.complete.errIf = b.errIf := rfl
@[simp] theorem complete_hlthIf (b : Bcsh) : b.complete.hlthIf = b.hlthIf := rfl
@[simp] theorem complete_aesIf (b : Bcsh) : b.complete.aesIf = b.aesIf := rfl
@[simp] theorem complete_doneIe (b : Bcsh) : b.complete.doneIe = b.doneIe := rfl
@[simp] theorem complete_errIe (b : Bcsh) : b.complete.errIe = b.errIe := rfl
@[simp] theorem complete_hlthIe (b : Bcsh) : b.complete.hlthIe = b.hlthIe := rfl
@[simp] theorem complete_aesIe (b : Bcsh) : b.complete.aesIe = b.aesIe := rfl
@[simp] theorem complete_errCode (b : Bcsh) : b.complete.errCode = b.errCode := rfl
@[simp] theorem complete_vnen (b : Bcsh) : b.complete.vnen = b.vnen := rfl
@[simp] theorem complete_rcten (b : Bcsh) : b.complete.rcten = b.rcten := rfl
@[simp] theorem complete_vnph (b : Bcsh) : b.complete.vnph = false := rfl
@[simp] theorem complete_vnb1 (b : Bcsh) : b.complete.vnb1 = b.vnb1 := rfl
@[simp] theorem complete_rctLast (b : Bcsh) : b.complete.rctLast = b.rctLast := rfl
@[simp] theorem complete_rctCnt (b : Bcsh) : b.complete.rctCnt = b.rctCnt := rfl

@[simp] theorem abort_win (c : ErrCause) (b : Bcsh) : (b.abort c).win = b.win := rfl
@[simp] theorem abort_sum (c : ErrCause) (b : Bcsh) : (b.abort c).sum = b.sum := rfl
@[simp] theorem abort_cursor (c : ErrCause) (b : Bcsh) : (b.abort c).cursor = b.cursor := rfl
@[simp] theorem abort_initDone (c : ErrCause) (b : Bcsh) : (b.abort c).initDone = b.initDone := rfl
@[simp] theorem abort_sr (c : ErrCause) (b : Bcsh) : (b.abort c).sr = 0 := rfl
@[simp] theorem abort_bitcnt (c : ErrCause) (b : Bcsh) : (b.abort c).bitcnt = 0 := rfl
@[simp] theorem abort_result (c : ErrCause) (b : Bcsh) : (b.abort c).result = b.result := rfl
@[simp] theorem abort_out (c : ErrCause) (b : Bcsh) : (b.abort c).out = b.out := rfl
@[simp] theorem abort_bandLo (c : ErrCause) (b : Bcsh) : (b.abort c).bandLo = b.bandLo := rfl
@[simp] theorem abort_bandHi (c : ErrCause) (b : Bcsh) : (b.abort c).bandHi = b.bandHi := rfl
@[simp] theorem abort_lasts (c : ErrCause) (b : Bcsh) : (b.abort c).lasts = b.lasts := rfl
@[simp] theorem abort_rejcnt (c : ErrCause) (b : Bcsh) : (b.abort c).rejcnt = b.rejcnt := rfl
@[simp] theorem abort_retry (c : ErrCause) (b : Bcsh) : (b.abort c).retry = b.retry := rfl
@[simp] theorem abort_state (c : ErrCause) (b : Bcsh) : (b.abort c).state = .idle := rfl
@[simp] theorem abort_op (c : ErrCause) (b : Bcsh) : (b.abort c).op = 0 := rfl
@[simp] theorem abort_fillIdx (c : ErrCause) (b : Bcsh) : (b.abort c).fillIdx = 0 := rfl
@[simp] theorem abort_prngDone (c : ErrCause) (b : Bcsh) : (b.abort c).prngDone = b.prngDone := rfl
@[simp] theorem abort_accClkEn (c : ErrCause) (b : Bcsh) : (b.abort c).accClkEn = b.accClkEn := rfl
@[simp] theorem abort_accIe (c : ErrCause) (b : Bcsh) : (b.abort c).accIe = false := rfl
@[simp] theorem abort_doneIf (c : ErrCause) (b : Bcsh) : (b.abort c).doneIf = b.doneIf := rfl
@[simp] theorem abort_errIf (c : ErrCause) (b : Bcsh) : (b.abort c).errIf = true := rfl
@[simp] theorem abort_hlthIf (c : ErrCause) (b : Bcsh) : (b.abort c).hlthIf = b.hlthIf := rfl
@[simp] theorem abort_aesIf (c : ErrCause) (b : Bcsh) : (b.abort c).aesIf = b.aesIf := rfl
@[simp] theorem abort_doneIe (c : ErrCause) (b : Bcsh) : (b.abort c).doneIe = b.doneIe := rfl
@[simp] theorem abort_errIe (c : ErrCause) (b : Bcsh) : (b.abort c).errIe = b.errIe := rfl
@[simp] theorem abort_hlthIe (c : ErrCause) (b : Bcsh) : (b.abort c).hlthIe = b.hlthIe := rfl
@[simp] theorem abort_aesIe (c : ErrCause) (b : Bcsh) : (b.abort c).aesIe = b.aesIe := rfl
@[simp] theorem abort_errCode (c : ErrCause) (b : Bcsh) : (b.abort c).errCode = c.code := rfl
@[simp] theorem abort_vnen (c : ErrCause) (b : Bcsh) : (b.abort c).vnen = b.vnen := rfl
@[simp] theorem abort_rcten (c : ErrCause) (b : Bcsh) : (b.abort c).rcten = b.rcten := rfl
@[simp] theorem abort_vnph (c : ErrCause) (b : Bcsh) : (b.abort c).vnph = false := rfl
@[simp] theorem abort_vnb1 (c : ErrCause) (b : Bcsh) : (b.abort c).vnb1 = b.vnb1 := rfl
@[simp] theorem abort_rctLast (c : ErrCause) (b : Bcsh) : (b.abort c).rctLast = b.rctLast := rfl
@[simp] theorem abort_rctCnt (c : ErrCause) (b : Bcsh) : (b.abort c).rctCnt = b.rctCnt := rfl

@[simp] theorem wordStart_win (b : Bcsh) : b.wordStart.win = b.win := rfl
@[simp] theorem wordStart_sum (b : Bcsh) : b.wordStart.sum = b.sum := rfl
@[simp] theorem wordStart_cursor (b : Bcsh) : b.wordStart.cursor = b.cursor := rfl
@[simp] theorem wordStart_initDone (b : Bcsh) : b.wordStart.initDone = b.initDone := rfl
@[simp] theorem wordStart_sr (b : Bcsh) : b.wordStart.sr = 0 := rfl
@[simp] theorem wordStart_bitcnt (b : Bcsh) : b.wordStart.bitcnt = 0 := rfl
@[simp] theorem wordStart_result (b : Bcsh) : b.wordStart.result = b.result := rfl
@[simp] theorem wordStart_out (b : Bcsh) : b.wordStart.out = b.out := rfl
@[simp] theorem wordStart_bandLo (b : Bcsh) : b.wordStart.bandLo = b.bandLo := rfl
@[simp] theorem wordStart_bandHi (b : Bcsh) : b.wordStart.bandHi = b.bandHi := rfl
@[simp] theorem wordStart_lasts (b : Bcsh) : b.wordStart.lasts = b.lasts := rfl
@[simp] theorem wordStart_rejcnt (b : Bcsh) : b.wordStart.rejcnt = b.rejcnt := rfl
@[simp] theorem wordStart_retry (b : Bcsh) : b.wordStart.retry = b.retry := rfl
@[simp] theorem wordStart_state (b : Bcsh) : b.wordStart.state = b.state := rfl
@[simp] theorem wordStart_op (b : Bcsh) : b.wordStart.op = b.op := rfl
@[simp] theorem wordStart_fillIdx (b : Bcsh) : b.wordStart.fillIdx = b.fillIdx := rfl
@[simp] theorem wordStart_prngDone (b : Bcsh) : b.wordStart.prngDone = b.prngDone := rfl
@[simp] theorem wordStart_accClkEn (b : Bcsh) : b.wordStart.accClkEn = b.accClkEn := rfl
@[simp] theorem wordStart_accIe (b : Bcsh) : b.wordStart.accIe = b.accIe := rfl
@[simp] theorem wordStart_doneIf (b : Bcsh) : b.wordStart.doneIf = b.doneIf := rfl
@[simp] theorem wordStart_errIf (b : Bcsh) : b.wordStart.errIf = b.errIf := rfl
@[simp] theorem wordStart_hlthIf (b : Bcsh) : b.wordStart.hlthIf = b.hlthIf := rfl
@[simp] theorem wordStart_aesIf (b : Bcsh) : b.wordStart.aesIf = b.aesIf := rfl
@[simp] theorem wordStart_doneIe (b : Bcsh) : b.wordStart.doneIe = b.doneIe := rfl
@[simp] theorem wordStart_errIe (b : Bcsh) : b.wordStart.errIe = b.errIe := rfl
@[simp] theorem wordStart_hlthIe (b : Bcsh) : b.wordStart.hlthIe = b.hlthIe := rfl
@[simp] theorem wordStart_aesIe (b : Bcsh) : b.wordStart.aesIe = b.aesIe := rfl
@[simp] theorem wordStart_errCode (b : Bcsh) : b.wordStart.errCode = b.errCode := rfl
@[simp] theorem wordStart_vnen (b : Bcsh) : b.wordStart.vnen = b.vnen := rfl
@[simp] theorem wordStart_rcten (b : Bcsh) : b.wordStart.rcten = b.rcten := rfl
@[simp] theorem wordStart_vnph (b : Bcsh) : b.wordStart.vnph = b.vnph := rfl
@[simp] theorem wordStart_vnb1 (b : Bcsh) : b.wordStart.vnb1 = b.vnb1 := rfl
@[simp] theorem wordStart_rctLast (b : Bcsh) : b.wordStart.rctLast = b.rctLast := rfl
@[simp] theorem wordStart_rctCnt (b : Bcsh) : b.wordStart.rctCnt = b.rctCnt := rfl

@[simp] theorem startCommand_win (opc : BitVec 3) (st : SeqState) (b : Bcsh) : (b.startCommand opc st).win = b.win := rfl
@[simp] theorem startCommand_sum (opc : BitVec 3) (st : SeqState) (b : Bcsh) : (b.startCommand opc st).sum = b.sum := rfl
@[simp] theorem startCommand_cursor (opc : BitVec 3) (st : SeqState) (b : Bcsh) : (b.startCommand opc st).cursor = b.cursor := rfl
@[simp] theorem startCommand_initDone (opc : BitVec 3) (st : SeqState) (b : Bcsh) : (b.startCommand opc st).initDone = b.initDone := rfl
@[simp] theorem startCommand_sr (opc : BitVec 3) (st : SeqState) (b : Bcsh) : (b.startCommand opc st).sr = b.sr := rfl
@[simp] theorem startCommand_bitcnt (opc : BitVec 3) (st : SeqState) (b : Bcsh) : (b.startCommand opc st).bitcnt = b.bitcnt := rfl
@[simp] theorem startCommand_result (opc : BitVec 3) (st : SeqState) (b : Bcsh) : (b.startCommand opc st).result = b.result := rfl
@[simp] theorem startCommand_out (opc : BitVec 3) (st : SeqState) (b : Bcsh) : (b.startCommand opc st).out = b.out := rfl
@[simp] theorem startCommand_bandLo (opc : BitVec 3) (st : SeqState) (b : Bcsh) : (b.startCommand opc st).bandLo = b.bandLo := rfl
@[simp] theorem startCommand_bandHi (opc : BitVec 3) (st : SeqState) (b : Bcsh) : (b.startCommand opc st).bandHi = b.bandHi := rfl
@[simp] theorem startCommand_lasts (opc : BitVec 3) (st : SeqState) (b : Bcsh) : (b.startCommand opc st).lasts = b.lasts := rfl
@[simp] theorem startCommand_rejcnt (opc : BitVec 3) (st : SeqState) (b : Bcsh) : (b.startCommand opc st).rejcnt = b.rejcnt := rfl
@[simp] theorem startCommand_retry (opc : BitVec 3) (st : SeqState) (b : Bcsh) : (b.startCommand opc st).retry = 0 := rfl
@[simp] theorem startCommand_state (opc : BitVec 3) (st : SeqState) (b : Bcsh) : (b.startCommand opc st).state = st := rfl
@[simp] theorem startCommand_op (opc : BitVec 3) (st : SeqState) (b : Bcsh) : (b.startCommand opc st).op = opc := rfl
@[simp] theorem startCommand_fillIdx (opc : BitVec 3) (st : SeqState) (b : Bcsh) : (b.startCommand opc st).fillIdx = b.fillIdx := rfl
@[simp] theorem startCommand_prngDone (opc : BitVec 3) (st : SeqState) (b : Bcsh) : (b.startCommand opc st).prngDone = b.prngDone := rfl
@[simp] theorem startCommand_accClkEn (opc : BitVec 3) (st : SeqState) (b : Bcsh) : (b.startCommand opc st).accClkEn = b.accClkEn := rfl
@[simp] theorem startCommand_accIe (opc : BitVec 3) (st : SeqState) (b : Bcsh) : (b.startCommand opc st).accIe = b.accIe := rfl
@[simp] theorem startCommand_doneIf (opc : BitVec 3) (st : SeqState) (b : Bcsh) : (b.startCommand opc st).doneIf = b.doneIf := rfl
@[simp] theorem startCommand_errIf (opc : BitVec 3) (st : SeqState) (b : Bcsh) : (b.startCommand opc st).errIf = b.errIf := rfl
@[simp] theorem startCommand_hlthIf (opc : BitVec 3) (st : SeqState) (b : Bcsh) : (b.startCommand opc st).hlthIf = b.hlthIf := rfl
@[simp] theorem startCommand_aesIf (opc : BitVec 3) (st : SeqState) (b : Bcsh) : (b.startCommand opc st).aesIf = b.aesIf := rfl
@[simp] theorem startCommand_doneIe (opc : BitVec 3) (st : SeqState) (b : Bcsh) : (b.startCommand opc st).doneIe = b.doneIe := rfl
@[simp] theorem startCommand_errIe (opc : BitVec 3) (st : SeqState) (b : Bcsh) : (b.startCommand opc st).errIe = b.errIe := rfl
@[simp] theorem startCommand_hlthIe (opc : BitVec 3) (st : SeqState) (b : Bcsh) : (b.startCommand opc st).hlthIe = b.hlthIe := rfl
@[simp] theorem startCommand_aesIe (opc : BitVec 3) (st : SeqState) (b : Bcsh) : (b.startCommand opc st).aesIe = b.aesIe := rfl
@[simp] theorem startCommand_errCode (opc : BitVec 3) (st : SeqState) (b : Bcsh) : (b.startCommand opc st).errCode = 0 := rfl
@[simp] theorem startCommand_vnen (opc : BitVec 3) (st : SeqState) (b : Bcsh) : (b.startCommand opc st).vnen = b.vnen := rfl
@[simp] theorem startCommand_rcten (opc : BitVec 3) (st : SeqState) (b : Bcsh) : (b.startCommand opc st).rcten = b.rcten := rfl
@[simp] theorem startCommand_vnph (opc : BitVec 3) (st : SeqState) (b : Bcsh) : (b.startCommand opc st).vnph = false := rfl
@[simp] theorem startCommand_vnb1 (opc : BitVec 3) (st : SeqState) (b : Bcsh) : (b.startCommand opc st).vnb1 = b.vnb1 := rfl
@[simp] theorem startCommand_rctLast (opc : BitVec 3) (st : SeqState) (b : Bcsh) : (b.startCommand opc st).rctLast = b.rctLast := rfl
@[simp] theorem startCommand_rctCnt (opc : BitVec 3) (st : SeqState) (b : Bcsh) : (b.startCommand opc st).rctCnt = b.rctCnt := rfl

@[simp] theorem clearFlags_win (w : Word) (b : Bcsh) : (b.clearFlags w).win = b.win := rfl
@[simp] theorem clearFlags_sum (w : Word) (b : Bcsh) : (b.clearFlags w).sum = b.sum := rfl
@[simp] theorem clearFlags_cursor (w : Word) (b : Bcsh) : (b.clearFlags w).cursor = b.cursor := rfl
@[simp] theorem clearFlags_initDone (w : Word) (b : Bcsh) : (b.clearFlags w).initDone = b.initDone := rfl
@[simp] theorem clearFlags_sr (w : Word) (b : Bcsh) : (b.clearFlags w).sr = b.sr := rfl
@[simp] theorem clearFlags_bitcnt (w : Word) (b : Bcsh) : (b.clearFlags w).bitcnt = b.bitcnt := rfl
@[simp] theorem clearFlags_result (w : Word) (b : Bcsh) : (b.clearFlags w).result = b.result := rfl
@[simp] theorem clearFlags_out (w : Word) (b : Bcsh) : (b.clearFlags w).out = b.out := rfl
@[simp] theorem clearFlags_bandLo (w : Word) (b : Bcsh) : (b.clearFlags w).bandLo = b.bandLo := rfl
@[simp] theorem clearFlags_bandHi (w : Word) (b : Bcsh) : (b.clearFlags w).bandHi = b.bandHi := rfl
@[simp] theorem clearFlags_lasts (w : Word) (b : Bcsh) : (b.clearFlags w).lasts = b.lasts := rfl
@[simp] theorem clearFlags_rejcnt (w : Word) (b : Bcsh) : (b.clearFlags w).rejcnt = b.rejcnt := rfl
@[simp] theorem clearFlags_retry (w : Word) (b : Bcsh) : (b.clearFlags w).retry = b.retry := rfl
@[simp] theorem clearFlags_state (w : Word) (b : Bcsh) : (b.clearFlags w).state = b.state := rfl
@[simp] theorem clearFlags_op (w : Word) (b : Bcsh) : (b.clearFlags w).op = b.op := rfl
@[simp] theorem clearFlags_fillIdx (w : Word) (b : Bcsh) : (b.clearFlags w).fillIdx = b.fillIdx := rfl
@[simp] theorem clearFlags_prngDone (w : Word) (b : Bcsh) : (b.clearFlags w).prngDone = b.prngDone := rfl
@[simp] theorem clearFlags_accClkEn (w : Word) (b : Bcsh) : (b.clearFlags w).accClkEn = b.accClkEn := rfl
@[simp] theorem clearFlags_accIe (w : Word) (b : Bcsh) : (b.clearFlags w).accIe = b.accIe := rfl
@[simp] theorem clearFlags_doneIf (w : Word) (b : Bcsh) : (b.clearFlags w).doneIf = (b.doneIf && !w.getLsbD 0) := rfl
@[simp] theorem clearFlags_errIf (w : Word) (b : Bcsh) : (b.clearFlags w).errIf = (b.errIf && !w.getLsbD 1) := rfl
@[simp] theorem clearFlags_hlthIf (w : Word) (b : Bcsh) : (b.clearFlags w).hlthIf = (b.hlthIf && !w.getLsbD 2) := rfl
@[simp] theorem clearFlags_aesIf (w : Word) (b : Bcsh) : (b.clearFlags w).aesIf = (b.aesIf && !w.getLsbD 3) := rfl
@[simp] theorem clearFlags_doneIe (w : Word) (b : Bcsh) : (b.clearFlags w).doneIe = b.doneIe := rfl
@[simp] theorem clearFlags_errIe (w : Word) (b : Bcsh) : (b.clearFlags w).errIe = b.errIe := rfl
@[simp] theorem clearFlags_hlthIe (w : Word) (b : Bcsh) : (b.clearFlags w).hlthIe = b.hlthIe := rfl
@[simp] theorem clearFlags_aesIe (w : Word) (b : Bcsh) : (b.clearFlags w).aesIe = b.aesIe := rfl
@[simp] theorem clearFlags_errCode (w : Word) (b : Bcsh) : (b.clearFlags w).errCode = b.errCode := rfl
@[simp] theorem clearFlags_vnen (w : Word) (b : Bcsh) : (b.clearFlags w).vnen = b.vnen := rfl
@[simp] theorem clearFlags_rcten (w : Word) (b : Bcsh) : (b.clearFlags w).rcten = b.rcten := rfl
@[simp] theorem clearFlags_vnph (w : Word) (b : Bcsh) : (b.clearFlags w).vnph = b.vnph := rfl
@[simp] theorem clearFlags_vnb1 (w : Word) (b : Bcsh) : (b.clearFlags w).vnb1 = b.vnb1 := rfl
@[simp] theorem clearFlags_rctLast (w : Word) (b : Bcsh) : (b.clearFlags w).rctLast = b.rctLast := rfl
@[simp] theorem clearFlags_rctCnt (w : Word) (b : Bcsh) : (b.clearFlags w).rctCnt = b.rctCnt := rfl

@[simp] theorem countRejection_win (b : Bcsh) : (countRejection b).win = b.win := rfl
@[simp] theorem countRejection_sum (b : Bcsh) : (countRejection b).sum = b.sum := rfl
@[simp] theorem countRejection_cursor (b : Bcsh) : (countRejection b).cursor = b.cursor := rfl
@[simp] theorem countRejection_initDone (b : Bcsh) : (countRejection b).initDone = b.initDone := rfl
@[simp] theorem countRejection_sr (b : Bcsh) : (countRejection b).sr = b.sr := rfl
@[simp] theorem countRejection_bitcnt (b : Bcsh) : (countRejection b).bitcnt = b.bitcnt := rfl
@[simp] theorem countRejection_result (b : Bcsh) : (countRejection b).result = b.result := rfl
@[simp] theorem countRejection_out (b : Bcsh) : (countRejection b).out = b.out := rfl
@[simp] theorem countRejection_bandLo (b : Bcsh) : (countRejection b).bandLo = b.bandLo := rfl
@[simp] theorem countRejection_bandHi (b : Bcsh) : (countRejection b).bandHi = b.bandHi := rfl
@[simp] theorem countRejection_lasts (b : Bcsh) : (countRejection b).lasts = b.lasts := rfl
@[simp] theorem countRejection_rejcnt (b : Bcsh) : (countRejection b).rejcnt = satInc32 b.rejcnt := rfl
@[simp] theorem countRejection_retry (b : Bcsh) : (countRejection b).retry = satInc32 b.retry := rfl
@[simp] theorem countRejection_state (b : Bcsh) : (countRejection b).state = b.state := rfl
@[simp] theorem countRejection_op (b : Bcsh) : (countRejection b).op = b.op := rfl
@[simp] theorem countRejection_fillIdx (b : Bcsh) : (countRejection b).fillIdx = b.fillIdx := rfl
@[simp] theorem countRejection_prngDone (b : Bcsh) : (countRejection b).prngDone = b.prngDone := rfl
@[simp] theorem countRejection_accClkEn (b : Bcsh) : (countRejection b).accClkEn = b.accClkEn := rfl
@[simp] theorem countRejection_accIe (b : Bcsh) : (countRejection b).accIe = b.accIe := rfl
@[simp] theorem countRejection_doneIf (b : Bcsh) : (countRejection b).doneIf = b.doneIf := rfl
@[simp] theorem countRejection_errIf (b : Bcsh) : (countRejection b).errIf = b.errIf := rfl
@[simp] theorem countRejection_hlthIf (b : Bcsh) : (countRejection b).hlthIf = b.hlthIf := rfl
@[simp] theorem countRejection_aesIf (b : Bcsh) : (countRejection b).aesIf = b.aesIf := rfl
@[simp] theorem countRejection_doneIe (b : Bcsh) : (countRejection b).doneIe = b.doneIe := rfl
@[simp] theorem countRejection_errIe (b : Bcsh) : (countRejection b).errIe = b.errIe := rfl
@[simp] theorem countRejection_hlthIe (b : Bcsh) : (countRejection b).hlthIe = b.hlthIe := rfl
@[simp] theorem countRejection_aesIe (b : Bcsh) : (countRejection b).aesIe = b.aesIe := rfl
@[simp] theorem countRejection_errCode (b : Bcsh) : (countRejection b).errCode = b.errCode := rfl
@[simp] theorem countRejection_vnen (b : Bcsh) : (countRejection b).vnen = b.vnen := rfl
@[simp] theorem countRejection_rcten (b : Bcsh) : (countRejection b).rcten = b.rcten := rfl
@[simp] theorem countRejection_vnph (b : Bcsh) : (countRejection b).vnph = b.vnph := rfl
@[simp] theorem countRejection_vnb1 (b : Bcsh) : (countRejection b).vnb1 = b.vnb1 := rfl
@[simp] theorem countRejection_rctLast (b : Bcsh) : (countRejection b).rctLast = b.rctLast := rfl
@[simp] theorem countRejection_rctCnt (b : Bcsh) : (countRejection b).rctCnt = b.rctCnt := rfl

@[simp] theorem evictInsert_win (d : Sample) (b : Bcsh) : (evictInsert d b).win = windowPut b.win b.cursor d := rfl
@[simp] theorem evictInsert_sum (d : Sample) (b : Bcsh) : (evictInsert d b).sum = sumReplace b.sum (windowSlot b.win b.cursor) d := rfl
@[simp] theorem evictInsert_cursor (d : Sample) (b : Bcsh) : (evictInsert d b).cursor = b.cursor + 1 := rfl
@[simp] theorem evictInsert_initDone (d : Sample) (b : Bcsh) : (evictInsert d b).initDone = b.initDone := rfl
@[simp] theorem evictInsert_sr (d : Sample) (b : Bcsh) : (evictInsert d b).sr = b.sr := rfl
@[simp] theorem evictInsert_bitcnt (d : Sample) (b : Bcsh) : (evictInsert d b).bitcnt = b.bitcnt := rfl
@[simp] theorem evictInsert_result (d : Sample) (b : Bcsh) : (evictInsert d b).result = b.result := rfl
@[simp] theorem evictInsert_out (d : Sample) (b : Bcsh) : (evictInsert d b).out = b.out := rfl
@[simp] theorem evictInsert_bandLo (d : Sample) (b : Bcsh) : (evictInsert d b).bandLo = b.bandLo := rfl
@[simp] theorem evictInsert_bandHi (d : Sample) (b : Bcsh) : (evictInsert d b).bandHi = b.bandHi := rfl
@[simp] theorem evictInsert_lasts (d : Sample) (b : Bcsh) : (evictInsert d b).lasts = b.lasts := rfl
@[simp] theorem evictInsert_rejcnt (d : Sample) (b : Bcsh) : (evictInsert d b).rejcnt = b.rejcnt := rfl
@[simp] theorem evictInsert_retry (d : Sample) (b : Bcsh) : (evictInsert d b).retry = b.retry := rfl
@[simp] theorem evictInsert_state (d : Sample) (b : Bcsh) : (evictInsert d b).state = b.state := rfl
@[simp] theorem evictInsert_op (d : Sample) (b : Bcsh) : (evictInsert d b).op = b.op := rfl
@[simp] theorem evictInsert_fillIdx (d : Sample) (b : Bcsh) : (evictInsert d b).fillIdx = b.fillIdx := rfl
@[simp] theorem evictInsert_prngDone (d : Sample) (b : Bcsh) : (evictInsert d b).prngDone = b.prngDone := rfl
@[simp] theorem evictInsert_accClkEn (d : Sample) (b : Bcsh) : (evictInsert d b).accClkEn = b.accClkEn := rfl
@[simp] theorem evictInsert_accIe (d : Sample) (b : Bcsh) : (evictInsert d b).accIe = b.accIe := rfl
@[simp] theorem evictInsert_doneIf (d : Sample) (b : Bcsh) : (evictInsert d b).doneIf = b.doneIf := rfl
@[simp] theorem evictInsert_errIf (d : Sample) (b : Bcsh) : (evictInsert d b).errIf = b.errIf := rfl
@[simp] theorem evictInsert_hlthIf (d : Sample) (b : Bcsh) : (evictInsert d b).hlthIf = b.hlthIf := rfl
@[simp] theorem evictInsert_aesIf (d : Sample) (b : Bcsh) : (evictInsert d b).aesIf = b.aesIf := rfl
@[simp] theorem evictInsert_doneIe (d : Sample) (b : Bcsh) : (evictInsert d b).doneIe = b.doneIe := rfl
@[simp] theorem evictInsert_errIe (d : Sample) (b : Bcsh) : (evictInsert d b).errIe = b.errIe := rfl
@[simp] theorem evictInsert_hlthIe (d : Sample) (b : Bcsh) : (evictInsert d b).hlthIe = b.hlthIe := rfl
@[simp] theorem evictInsert_aesIe (d : Sample) (b : Bcsh) : (evictInsert d b).aesIe = b.aesIe := rfl
@[simp] theorem evictInsert_errCode (d : Sample) (b : Bcsh) : (evictInsert d b).errCode = b.errCode := rfl
@[simp] theorem evictInsert_vnen (d : Sample) (b : Bcsh) : (evictInsert d b).vnen = b.vnen := rfl
@[simp] theorem evictInsert_rcten (d : Sample) (b : Bcsh) : (evictInsert d b).rcten = b.rcten := rfl
@[simp] theorem evictInsert_vnph (d : Sample) (b : Bcsh) : (evictInsert d b).vnph = b.vnph := rfl
@[simp] theorem evictInsert_vnb1 (d : Sample) (b : Bcsh) : (evictInsert d b).vnb1 = b.vnb1 := rfl
@[simp] theorem evictInsert_rctLast (d : Sample) (b : Bcsh) : (evictInsert d b).rctLast = b.rctLast := rfl
@[simp] theorem evictInsert_rctCnt (d : Sample) (b : Bcsh) : (evictInsert d b).rctCnt = b.rctCnt := rfl

@[simp] theorem shiftIn_win (c : Bool) (b : Bcsh) : (shiftIn c b).win = b.win := rfl
@[simp] theorem shiftIn_sum (c : Bool) (b : Bcsh) : (shiftIn c b).sum = b.sum := rfl
@[simp] theorem shiftIn_cursor (c : Bool) (b : Bcsh) : (shiftIn c b).cursor = b.cursor := rfl
@[simp] theorem shiftIn_initDone (c : Bool) (b : Bcsh) : (shiftIn c b).initDone = b.initDone := rfl
@[simp] theorem shiftIn_sr (c : Bool) (b : Bcsh) : (shiftIn c b).sr = (b.sr <<< 1 ||| (BitVec.ofBool c).setWidth 32) := rfl
@[simp] theorem shiftIn_bitcnt (c : Bool) (b : Bcsh) : (shiftIn c b).bitcnt = b.bitcnt + 1 := rfl
@[simp] theorem shiftIn_result (c : Bool) (b : Bcsh) : (shiftIn c b).result = b.result := rfl
@[simp] theorem shiftIn_out (c : Bool) (b : Bcsh) : (shiftIn c b).out = b.out := rfl
@[simp] theorem shiftIn_bandLo (c : Bool) (b : Bcsh) : (shiftIn c b).bandLo = b.bandLo := rfl
@[simp] theorem shiftIn_bandHi (c : Bool) (b : Bcsh) : (shiftIn c b).bandHi = b.bandHi := rfl
@[simp] theorem shiftIn_lasts (c : Bool) (b : Bcsh) : (shiftIn c b).lasts = b.lasts := rfl
@[simp] theorem shiftIn_rejcnt (c : Bool) (b : Bcsh) : (shiftIn c b).rejcnt = b.rejcnt := rfl
@[simp] theorem shiftIn_retry (c : Bool) (b : Bcsh) : (shiftIn c b).retry = b.retry := rfl
@[simp] theorem shiftIn_state (c : Bool) (b : Bcsh) : (shiftIn c b).state = b.state := rfl
@[simp] theorem shiftIn_op (c : Bool) (b : Bcsh) : (shiftIn c b).op = b.op := rfl
@[simp] theorem shiftIn_fillIdx (c : Bool) (b : Bcsh) : (shiftIn c b).fillIdx = b.fillIdx := rfl
@[simp] theorem shiftIn_prngDone (c : Bool) (b : Bcsh) : (shiftIn c b).prngDone = b.prngDone := rfl
@[simp] theorem shiftIn_accClkEn (c : Bool) (b : Bcsh) : (shiftIn c b).accClkEn = b.accClkEn := rfl
@[simp] theorem shiftIn_accIe (c : Bool) (b : Bcsh) : (shiftIn c b).accIe = b.accIe := rfl
@[simp] theorem shiftIn_doneIf (c : Bool) (b : Bcsh) : (shiftIn c b).doneIf = b.doneIf := rfl
@[simp] theorem shiftIn_errIf (c : Bool) (b : Bcsh) : (shiftIn c b).errIf = b.errIf := rfl
@[simp] theorem shiftIn_hlthIf (c : Bool) (b : Bcsh) : (shiftIn c b).hlthIf = b.hlthIf := rfl
@[simp] theorem shiftIn_aesIf (c : Bool) (b : Bcsh) : (shiftIn c b).aesIf = b.aesIf := rfl
@[simp] theorem shiftIn_doneIe (c : Bool) (b : Bcsh) : (shiftIn c b).doneIe = b.doneIe := rfl
@[simp] theorem shiftIn_errIe (c : Bool) (b : Bcsh) : (shiftIn c b).errIe = b.errIe := rfl
@[simp] theorem shiftIn_hlthIe (c : Bool) (b : Bcsh) : (shiftIn c b).hlthIe = b.hlthIe := rfl
@[simp] theorem shiftIn_aesIe (c : Bool) (b : Bcsh) : (shiftIn c b).aesIe = b.aesIe := rfl
@[simp] theorem shiftIn_errCode (c : Bool) (b : Bcsh) : (shiftIn c b).errCode = b.errCode := rfl
@[simp] theorem shiftIn_vnen (c : Bool) (b : Bcsh) : (shiftIn c b).vnen = b.vnen := rfl
@[simp] theorem shiftIn_rcten (c : Bool) (b : Bcsh) : (shiftIn c b).rcten = b.rcten := rfl
@[simp] theorem shiftIn_vnph (c : Bool) (b : Bcsh) : (shiftIn c b).vnph = b.vnph := rfl
@[simp] theorem shiftIn_vnb1 (c : Bool) (b : Bcsh) : (shiftIn c b).vnb1 = b.vnb1 := rfl
@[simp] theorem shiftIn_rctLast (c : Bool) (b : Bcsh) : (shiftIn c b).rctLast = b.rctLast := rfl
@[simp] theorem shiftIn_rctCnt (c : Bool) (b : Bcsh) : (shiftIn c b).rctCnt = b.rctCnt := rfl

@[simp] theorem fillPut_win (d : Sample) (b : Bcsh) : (fillPut d b).win = windowPut b.win (fillSlot b) d := rfl
@[simp] theorem fillPut_sum (d : Sample) (b : Bcsh) : (fillPut d b).sum = sumReplace b.sum (windowSlot b.win (fillSlot b)) d := rfl
@[simp] theorem fillPut_cursor (d : Sample) (b : Bcsh) : (fillPut d b).cursor = b.cursor := rfl
@[simp] theorem fillPut_initDone (d : Sample) (b : Bcsh) : (fillPut d b).initDone = b.initDone := rfl
@[simp] theorem fillPut_sr (d : Sample) (b : Bcsh) : (fillPut d b).sr = b.sr := rfl
@[simp] theorem fillPut_bitcnt (d : Sample) (b : Bcsh) : (fillPut d b).bitcnt = b.bitcnt := rfl
@[simp] theorem fillPut_result (d : Sample) (b : Bcsh) : (fillPut d b).result = b.result := rfl
@[simp] theorem fillPut_out (d : Sample) (b : Bcsh) : (fillPut d b).out = b.out := rfl
@[simp] theorem fillPut_bandLo (d : Sample) (b : Bcsh) : (fillPut d b).bandLo = b.bandLo := rfl
@[simp] theorem fillPut_bandHi (d : Sample) (b : Bcsh) : (fillPut d b).bandHi = b.bandHi := rfl
@[simp] theorem fillPut_lasts (d : Sample) (b : Bcsh) : (fillPut d b).lasts = b.lasts := rfl
@[simp] theorem fillPut_rejcnt (d : Sample) (b : Bcsh) : (fillPut d b).rejcnt = b.rejcnt := rfl
@[simp] theorem fillPut_retry (d : Sample) (b : Bcsh) : (fillPut d b).retry = b.retry := rfl
@[simp] theorem fillPut_state (d : Sample) (b : Bcsh) : (fillPut d b).state = b.state := rfl
@[simp] theorem fillPut_op (d : Sample) (b : Bcsh) : (fillPut d b).op = b.op := rfl
@[simp] theorem fillPut_fillIdx (d : Sample) (b : Bcsh) : (fillPut d b).fillIdx = b.fillIdx + 1 := rfl
@[simp] theorem fillPut_prngDone (d : Sample) (b : Bcsh) : (fillPut d b).prngDone = b.prngDone := rfl
@[simp] theorem fillPut_accClkEn (d : Sample) (b : Bcsh) : (fillPut d b).accClkEn = b.accClkEn := rfl
@[simp] theorem fillPut_accIe (d : Sample) (b : Bcsh) : (fillPut d b).accIe = b.accIe := rfl
@[simp] theorem fillPut_doneIf (d : Sample) (b : Bcsh) : (fillPut d b).doneIf = b.doneIf := rfl
@[simp] theorem fillPut_errIf (d : Sample) (b : Bcsh) : (fillPut d b).errIf = b.errIf := rfl
@[simp] theorem fillPut_hlthIf (d : Sample) (b : Bcsh) : (fillPut d b).hlthIf = b.hlthIf := rfl
@[simp] theorem fillPut_aesIf (d : Sample) (b : Bcsh) : (fillPut d b).aesIf = b.aesIf := rfl
@[simp] theorem fillPut_doneIe (d : Sample) (b : Bcsh) : (fillPut d b).doneIe = b.doneIe := rfl
@[simp] theorem fillPut_errIe (d : Sample) (b : Bcsh) : (fillPut d b).errIe = b.errIe := rfl
@[simp] theorem fillPut_hlthIe (d : Sample) (b : Bcsh) : (fillPut d b).hlthIe = b.hlthIe := rfl
@[simp] theorem fillPut_aesIe (d : Sample) (b : Bcsh) : (fillPut d b).aesIe = b.aesIe := rfl
@[simp] theorem fillPut_errCode (d : Sample) (b : Bcsh) : (fillPut d b).errCode = b.errCode := rfl
@[simp] theorem fillPut_vnen (d : Sample) (b : Bcsh) : (fillPut d b).vnen = b.vnen := rfl
@[simp] theorem fillPut_rcten (d : Sample) (b : Bcsh) : (fillPut d b).rcten = b.rcten := rfl
@[simp] theorem fillPut_vnph (d : Sample) (b : Bcsh) : (fillPut d b).vnph = b.vnph := rfl
@[simp] theorem fillPut_vnb1 (d : Sample) (b : Bcsh) : (fillPut d b).vnb1 = b.vnb1 := rfl
@[simp] theorem fillPut_rctLast (d : Sample) (b : Bcsh) : (fillPut d b).rctLast = b.rctLast := rfl
@[simp] theorem fillPut_rctCnt (d : Sample) (b : Bcsh) : (fillPut d b).rctCnt = b.rctCnt := rfl

@[simp] theorem ctrlWrite_win (p : Params) (w : Word) (b : Bcsh) : (ctrlWrite p w b).win = b.win := rfl
@[simp] theorem ctrlWrite_sum (p : Params) (w : Word) (b : Bcsh) : (ctrlWrite p w b).sum = b.sum := rfl
@[simp] theorem ctrlWrite_cursor (p : Params) (w : Word) (b : Bcsh) : (ctrlWrite p w b).cursor = b.cursor := rfl
@[simp] theorem ctrlWrite_initDone (p : Params) (w : Word) (b : Bcsh) : (ctrlWrite p w b).initDone = b.initDone := rfl
@[simp] theorem ctrlWrite_sr (p : Params) (w : Word) (b : Bcsh) : (ctrlWrite p w b).sr = b.sr := rfl
@[simp] theorem ctrlWrite_bitcnt (p : Params) (w : Word) (b : Bcsh) : (ctrlWrite p w b).bitcnt = b.bitcnt := rfl
@[simp] theorem ctrlWrite_result (p : Params) (w : Word) (b : Bcsh) : (ctrlWrite p w b).result = b.result := rfl
@[simp] theorem ctrlWrite_out (p : Params) (w : Word) (b : Bcsh) : (ctrlWrite p w b).out = b.out := rfl
@[simp] theorem ctrlWrite_bandLo (p : Params) (w : Word) (b : Bcsh) : (ctrlWrite p w b).bandLo = b.bandLo := rfl
@[simp] theorem ctrlWrite_bandHi (p : Params) (w : Word) (b : Bcsh) : (ctrlWrite p w b).bandHi = b.bandHi := rfl
@[simp] theorem ctrlWrite_lasts (p : Params) (w : Word) (b : Bcsh) : (ctrlWrite p w b).lasts = b.lasts := rfl
@[simp] theorem ctrlWrite_rejcnt (p : Params) (w : Word) (b : Bcsh) : (ctrlWrite p w b).rejcnt = b.rejcnt := rfl
@[simp] theorem ctrlWrite_retry (p : Params) (w : Word) (b : Bcsh) : (ctrlWrite p w b).retry = b.retry := rfl
@[simp] theorem ctrlWrite_state (p : Params) (w : Word) (b : Bcsh) : (ctrlWrite p w b).state = b.state := rfl
@[simp] theorem ctrlWrite_op (p : Params) (w : Word) (b : Bcsh) : (ctrlWrite p w b).op = b.op := rfl
@[simp] theorem ctrlWrite_fillIdx (p : Params) (w : Word) (b : Bcsh) : (ctrlWrite p w b).fillIdx = b.fillIdx := rfl
@[simp] theorem ctrlWrite_prngDone (p : Params) (w : Word) (b : Bcsh) : (ctrlWrite p w b).prngDone = b.prngDone := rfl
@[simp] theorem ctrlWrite_accClkEn (p : Params) (w : Word) (b : Bcsh) : (ctrlWrite p w b).accClkEn = b.accClkEn := rfl
@[simp] theorem ctrlWrite_accIe (p : Params) (w : Word) (b : Bcsh) : (ctrlWrite p w b).accIe = b.accIe := rfl
@[simp] theorem ctrlWrite_doneIf (p : Params) (w : Word) (b : Bcsh) : (ctrlWrite p w b).doneIf = b.doneIf := rfl
@[simp] theorem ctrlWrite_errIf (p : Params) (w : Word) (b : Bcsh) : (ctrlWrite p w b).errIf = b.errIf := rfl
@[simp] theorem ctrlWrite_hlthIf (p : Params) (w : Word) (b : Bcsh) : (ctrlWrite p w b).hlthIf = b.hlthIf := rfl
@[simp] theorem ctrlWrite_aesIf (p : Params) (w : Word) (b : Bcsh) : (ctrlWrite p w b).aesIf = b.aesIf := rfl
@[simp] theorem ctrlWrite_doneIe (p : Params) (w : Word) (b : Bcsh) : (ctrlWrite p w b).doneIe = w.getLsbD 0 := rfl
@[simp] theorem ctrlWrite_errIe (p : Params) (w : Word) (b : Bcsh) : (ctrlWrite p w b).errIe = w.getLsbD 1 := rfl
@[simp] theorem ctrlWrite_hlthIe (p : Params) (w : Word) (b : Bcsh) : (ctrlWrite p w b).hlthIe = w.getLsbD 2 := rfl
@[simp] theorem ctrlWrite_aesIe (p : Params) (w : Word) (b : Bcsh) : (ctrlWrite p w b).aesIe = w.getLsbD 3 := rfl
@[simp] theorem ctrlWrite_errCode (p : Params) (w : Word) (b : Bcsh) : (ctrlWrite p w b).errCode = b.errCode := rfl
@[simp] theorem ctrlWrite_vnen (p : Params) (w : Word) (b : Bcsh) : (ctrlWrite p w b).vnen = (p.hasVn && w.getLsbD 4) := rfl
@[simp] theorem ctrlWrite_rcten (p : Params) (w : Word) (b : Bcsh) : (ctrlWrite p w b).rcten = (p.hasRct && w.getLsbD 5) := rfl
@[simp] theorem ctrlWrite_vnph (p : Params) (w : Word) (b : Bcsh) : (ctrlWrite p w b).vnph = b.vnph := rfl
@[simp] theorem ctrlWrite_vnb1 (p : Params) (w : Word) (b : Bcsh) : (ctrlWrite p w b).vnb1 = b.vnb1 := rfl
@[simp] theorem ctrlWrite_rctLast (p : Params) (w : Word) (b : Bcsh) : (ctrlWrite p w b).rctLast = b.rctLast := rfl
@[simp] theorem ctrlWrite_rctCnt (p : Params) (w : Word) (b : Bcsh) : (ctrlWrite p w b).rctCnt = (if p.hasRct && !w.getLsbD 5 then 0 else b.rctCnt) := rfl

@[simp] theorem hArmStep_win (b : Bcsh) : (hArmStep b).win = b.win := rfl
@[simp] theorem hArmStep_sum (b : Bcsh) : (hArmStep b).sum = b.sum := rfl
@[simp] theorem hArmStep_cursor (b : Bcsh) : (hArmStep b).cursor = b.cursor := rfl
@[simp] theorem hArmStep_initDone (b : Bcsh) : (hArmStep b).initDone = b.initDone := rfl
@[simp] theorem hArmStep_sr (b : Bcsh) : (hArmStep b).sr = 0 := rfl
@[simp] theorem hArmStep_bitcnt (b : Bcsh) : (hArmStep b).bitcnt = 0 := rfl
@[simp] theorem hArmStep_result (b : Bcsh) : (hArmStep b).result = b.result := rfl
@[simp] theorem hArmStep_out (b : Bcsh) : (hArmStep b).out = b.out := rfl
@[simp] theorem hArmStep_bandLo (b : Bcsh) : (hArmStep b).bandLo = b.bandLo := rfl
@[simp] theorem hArmStep_bandHi (b : Bcsh) : (hArmStep b).bandHi = b.bandHi := rfl
@[simp] theorem hArmStep_lasts (b : Bcsh) : (hArmStep b).lasts = b.lasts := rfl
@[simp] theorem hArmStep_rejcnt (b : Bcsh) : (hArmStep b).rejcnt = b.rejcnt := rfl
@[simp] theorem hArmStep_retry (b : Bcsh) : (hArmStep b).retry = b.retry := rfl
@[simp] theorem hArmStep_state (b : Bcsh) : (hArmStep b).state = .hSeed := rfl
@[simp] theorem hArmStep_op (b : Bcsh) : (hArmStep b).op = b.op := rfl
@[simp] theorem hArmStep_fillIdx (b : Bcsh) : (hArmStep b).fillIdx = b.fillIdx := rfl
@[simp] theorem hArmStep_prngDone (b : Bcsh) : (hArmStep b).prngDone = b.prngDone := rfl
@[simp] theorem hArmStep_accClkEn (b : Bcsh) : (hArmStep b).accClkEn = true := rfl
@[simp] theorem hArmStep_accIe (b : Bcsh) : (hArmStep b).accIe = true := rfl
@[simp] theorem hArmStep_doneIf (b : Bcsh) : (hArmStep b).doneIf = b.doneIf := rfl
@[simp] theorem hArmStep_errIf (b : Bcsh) : (hArmStep b).errIf = b.errIf := rfl
@[simp] theorem hArmStep_hlthIf (b : Bcsh) : (hArmStep b).hlthIf = b.hlthIf := rfl
@[simp] theorem hArmStep_aesIf (b : Bcsh) : (hArmStep b).aesIf = b.aesIf := rfl
@[simp] theorem hArmStep_doneIe (b : Bcsh) : (hArmStep b).doneIe = b.doneIe := rfl
@[simp] theorem hArmStep_errIe (b : Bcsh) : (hArmStep b).errIe = b.errIe := rfl
@[simp] theorem hArmStep_hlthIe (b : Bcsh) : (hArmStep b).hlthIe = b.hlthIe := rfl
@[simp] theorem hArmStep_aesIe (b : Bcsh) : (hArmStep b).aesIe = b.aesIe := rfl
@[simp] theorem hArmStep_errCode (b : Bcsh) : (hArmStep b).errCode = b.errCode := rfl
@[simp] theorem hArmStep_vnen (b : Bcsh) : (hArmStep b).vnen = b.vnen := rfl
@[simp] theorem hArmStep_rcten (b : Bcsh) : (hArmStep b).rcten = b.rcten := rfl
@[simp] theorem hArmStep_vnph (b : Bcsh) : (hArmStep b).vnph = b.vnph := rfl
@[simp] theorem hArmStep_vnb1 (b : Bcsh) : (hArmStep b).vnb1 = b.vnb1 := rfl
@[simp] theorem hArmStep_rctLast (b : Bcsh) : (hArmStep b).rctLast = b.rctLast := rfl
@[simp] theorem hArmStep_rctCnt (b : Bcsh) : (hArmStep b).rctCnt = b.rctCnt := rfl

@[simp] theorem hClearStep_win (b : Bcsh) : (hClearStep b).win = b.win := rfl
@[simp] theorem hClearStep_sum (b : Bcsh) : (hClearStep b).sum = b.sum := rfl
@[simp] theorem hClearStep_cursor (b : Bcsh) : (hClearStep b).cursor = b.cursor := rfl
@[simp] theorem hClearStep_initDone (b : Bcsh) : (hClearStep b).initDone = b.initDone := rfl
@[simp] theorem hClearStep_sr (b : Bcsh) : (hClearStep b).sr = b.sr := rfl
@[simp] theorem hClearStep_bitcnt (b : Bcsh) : (hClearStep b).bitcnt = b.bitcnt := rfl
@[simp] theorem hClearStep_result (b : Bcsh) : (hClearStep b).result = b.result := rfl
@[simp] theorem hClearStep_out (b : Bcsh) : (hClearStep b).out = b.out := rfl
@[simp] theorem hClearStep_bandLo (b : Bcsh) : (hClearStep b).bandLo = b.bandLo := rfl
@[simp] theorem hClearStep_bandHi (b : Bcsh) : (hClearStep b).bandHi = b.bandHi := rfl
@[simp] theorem hClearStep_lasts (b : Bcsh) : (hClearStep b).lasts = b.lasts := rfl
@[simp] theorem hClearStep_rejcnt (b : Bcsh) : (hClearStep b).rejcnt = b.rejcnt := rfl
@[simp] theorem hClearStep_retry (b : Bcsh) : (hClearStep b).retry = b.retry := rfl
@[simp] theorem hClearStep_state (b : Bcsh) : (hClearStep b).state = .hWait := rfl
@[simp] theorem hClearStep_op (b : Bcsh) : (hClearStep b).op = b.op := rfl
@[simp] theorem hClearStep_fillIdx (b : Bcsh) : (hClearStep b).fillIdx = b.fillIdx := rfl
@[simp] theorem hClearStep_prngDone (b : Bcsh) : (hClearStep b).prngDone = false := rfl
@[simp] theorem hClearStep_accClkEn (b : Bcsh) : (hClearStep b).accClkEn = b.accClkEn := rfl
@[simp] theorem hClearStep_accIe (b : Bcsh) : (hClearStep b).accIe = b.accIe := rfl
@[simp] theorem hClearStep_doneIf (b : Bcsh) : (hClearStep b).doneIf = b.doneIf := rfl
@[simp] theorem hClearStep_errIf (b : Bcsh) : (hClearStep b).errIf = b.errIf := rfl
@[simp] theorem hClearStep_hlthIf (b : Bcsh) : (hClearStep b).hlthIf = b.hlthIf := rfl
@[simp] theorem hClearStep_aesIf (b : Bcsh) : (hClearStep b).aesIf = b.aesIf := rfl
@[simp] theorem hClearStep_doneIe (b : Bcsh) : (hClearStep b).doneIe = b.doneIe := rfl
@[simp] theorem hClearStep_errIe (b : Bcsh) : (hClearStep b).errIe = b.errIe := rfl
@[simp] theorem hClearStep_hlthIe (b : Bcsh) : (hClearStep b).hlthIe = b.hlthIe := rfl
@[simp] theorem hClearStep_aesIe (b : Bcsh) : (hClearStep b).aesIe = b.aesIe := rfl
@[simp] theorem hClearStep_errCode (b : Bcsh) : (hClearStep b).errCode = b.errCode := rfl
@[simp] theorem hClearStep_vnen (b : Bcsh) : (hClearStep b).vnen = b.vnen := rfl
@[simp] theorem hClearStep_rcten (b : Bcsh) : (hClearStep b).rcten = b.rcten := rfl
@[simp] theorem hClearStep_vnph (b : Bcsh) : (hClearStep b).vnph = b.vnph := rfl
@[simp] theorem hClearStep_vnb1 (b : Bcsh) : (hClearStep b).vnb1 = b.vnb1 := rfl
@[simp] theorem hClearStep_rctLast (b : Bcsh) : (hClearStep b).rctLast = b.rctLast := rfl
@[simp] theorem hClearStep_rctCnt (b : Bcsh) : (hClearStep b).rctCnt = b.rctCnt := rfl

@[simp] theorem hReadStep_win (o : Block) (b : Bcsh) : (hReadStep o b).win = b.win := rfl
@[simp] theorem hReadStep_sum (o : Block) (b : Bcsh) : (hReadStep o b).sum = b.sum := rfl
@[simp] theorem hReadStep_cursor (o : Block) (b : Bcsh) : (hReadStep o b).cursor = b.cursor := rfl
@[simp] theorem hReadStep_initDone (o : Block) (b : Bcsh) : (hReadStep o b).initDone = b.initDone := rfl
@[simp] theorem hReadStep_sr (o : Block) (b : Bcsh) : (hReadStep o b).sr = b.sr := rfl
@[simp] theorem hReadStep_bitcnt (o : Block) (b : Bcsh) : (hReadStep o b).bitcnt = 0 := rfl
@[simp] theorem hReadStep_result (o : Block) (b : Bcsh) : (hReadStep o b).result = (if b.op = 5 then blockWord o 0 else b.result) := rfl
@[simp] theorem hReadStep_out (o : Block) (b : Bcsh) : (hReadStep o b).out = o := rfl
@[simp] theorem hReadStep_bandLo (o : Block) (b : Bcsh) : (hReadStep o b).bandLo = b.bandLo := rfl
@[simp] theorem hReadStep_bandHi (o : Block) (b : Bcsh) : (hReadStep o b).bandHi = b.bandHi := rfl
@[simp] theorem hReadStep_lasts (o : Block) (b : Bcsh) : (hReadStep o b).lasts = b.lasts := rfl
@[simp] theorem hReadStep_rejcnt (o : Block) (b : Bcsh) : (hReadStep o b).rejcnt = b.rejcnt := rfl
@[simp] theorem hReadStep_retry (o : Block) (b : Bcsh) : (hReadStep o b).retry = b.retry := rfl
@[simp] theorem hReadStep_state (o : Block) (b : Bcsh) : (hReadStep o b).state = .idle := rfl
@[simp] theorem hReadStep_op (o : Block) (b : Bcsh) : (hReadStep o b).op = 0 := rfl
@[simp] theorem hReadStep_fillIdx (o : Block) (b : Bcsh) : (hReadStep o b).fillIdx = 0 := rfl
@[simp] theorem hReadStep_prngDone (o : Block) (b : Bcsh) : (hReadStep o b).prngDone = b.prngDone := rfl
@[simp] theorem hReadStep_accClkEn (o : Block) (b : Bcsh) : (hReadStep o b).accClkEn = b.accClkEn := rfl
@[simp] theorem hReadStep_accIe (o : Block) (b : Bcsh) : (hReadStep o b).accIe = false := rfl
@[simp] theorem hReadStep_doneIf (o : Block) (b : Bcsh) : (hReadStep o b).doneIf = true := rfl
@[simp] theorem hReadStep_errIf (o : Block) (b : Bcsh) : (hReadStep o b).errIf = b.errIf := rfl
@[simp] theorem hReadStep_hlthIf (o : Block) (b : Bcsh) : (hReadStep o b).hlthIf = b.hlthIf := rfl
@[simp] theorem hReadStep_aesIf (o : Block) (b : Bcsh) : (hReadStep o b).aesIf = b.aesIf := rfl
@[simp] theorem hReadStep_doneIe (o : Block) (b : Bcsh) : (hReadStep o b).doneIe = b.doneIe := rfl
@[simp] theorem hReadStep_errIe (o : Block) (b : Bcsh) : (hReadStep o b).errIe = b.errIe := rfl
@[simp] theorem hReadStep_hlthIe (o : Block) (b : Bcsh) : (hReadStep o b).hlthIe = b.hlthIe := rfl
@[simp] theorem hReadStep_aesIe (o : Block) (b : Bcsh) : (hReadStep o b).aesIe = b.aesIe := rfl
@[simp] theorem hReadStep_errCode (o : Block) (b : Bcsh) : (hReadStep o b).errCode = b.errCode := rfl
@[simp] theorem hReadStep_vnen (o : Block) (b : Bcsh) : (hReadStep o b).vnen = b.vnen := rfl
@[simp] theorem hReadStep_rcten (o : Block) (b : Bcsh) : (hReadStep o b).rcten = b.rcten := rfl
@[simp] theorem hReadStep_vnph (o : Block) (b : Bcsh) : (hReadStep o b).vnph = false := rfl
@[simp] theorem hReadStep_vnb1 (o : Block) (b : Bcsh) : (hReadStep o b).vnb1 = b.vnb1 := rfl
@[simp] theorem hReadStep_rctLast (o : Block) (b : Bcsh) : (hReadStep o b).rctLast = b.rctLast := rfl
@[simp] theorem hReadStep_rctCnt (o : Block) (b : Bcsh) : (hReadStep o b).rctCnt = b.rctCnt := rfl

@[simp] theorem answer_par (r : HostResp) (b : Bcsh) (s : State) : (s.answer r b).par = s.par := rfl
@[simp] theorem answer_b (r : HostResp) (b : Bcsh) (s : State) : (s.answer r b).b = b := rfl
@[simp] theorem answer_acc (r : HostResp) (b : Bcsh) (s : State) : (s.answer r b).acc = s.acc := rfl
@[simp] theorem answer_adcConfigured (r : HostResp) (b : Bcsh) (s : State) : (s.answer r b).adcConfigured = s.adcConfigured := rfl
@[simp] theorem answer_sw (r : HostResp) (b : Bcsh) (s : State) : (s.answer r b).sw = s.sw := rfl
@[simp] theorem answer_resp (r : HostResp) (b : Bcsh) (s : State) : (s.answer r b).resp = r := rfl
@[simp] theorem answer_inbox (r : HostResp) (b : Bcsh) (s : State) : (s.answer r b).inbox = s.inbox := rfl
@[simp] theorem answer_tick (r : HostResp) (b : Bcsh) (s : State) : (s.answer r b).tick = s.tick := rfl

@[simp] theorem assertReset_par (s : State) : s.assertReset.par = s.par := rfl
@[simp] theorem assertReset_b (s : State) : s.assertReset.b = Bcsh.reset s.par := rfl
@[simp] theorem assertReset_acc (s : State) : s.assertReset.acc = s.acc := rfl
@[simp] theorem assertReset_adcConfigured (s : State) : s.assertReset.adcConfigured = s.adcConfigured := rfl
@[simp] theorem assertReset_sw (s : State) : s.assertReset.sw = s.sw := rfl
@[simp] theorem assertReset_resp (s : State) : s.assertReset.resp = .idle := rfl
@[simp] theorem assertReset_inbox (s : State) : s.assertReset.inbox = s.inbox := rfl
@[simp] theorem assertReset_tick (s : State) : s.assertReset.tick = s.tick := rfl

@[simp] theorem accept_busy (ev : StartEvent) (a : Acc) : (a.accept ev).busy = true := rfl
@[simp] theorem accept_prngIf (ev : StartEvent) (a : Acc) : (a.accept ev).prngIf = a.prngIf := rfl
@[simp] theorem accept_aesIf (ev : StartEvent) (a : Acc) : (a.accept ev).aesIf = a.aesIf := rfl
@[simp] theorem accept_aesIe (ev : StartEvent) (a : Acc) : (a.accept ev).aesIe = a.aesIe := rfl
@[simp] theorem accept_out (ev : StartEvent) (a : Acc) : (a.accept ev).out = a.out := rfl
@[simp] theorem accept_start (ev : StartEvent) (a : Acc) : (a.accept ev).start = some ev := rfl

@[simp] theorem finishPoll_pc (sw : HostSw) : sw.finishPoll.pc = .idle := rfl
@[simp] theorem finishPoll_dest (sw : HostSw) : sw.finishPoll.dest = sw.dest := rfl
@[simp] theorem finishPoll_len (sw : HostSw) : sw.finishPoll.len = sw.len := rfl
@[simp] theorem finishPoll_off (sw : HostSw) : sw.finishPoll.off = sw.off := rfl
@[simp] theorem finishPoll_k (sw : HostSw) : sw.finishPoll.k = sw.k := rfl
@[simp] theorem finishPoll_tmp (sw : HostSw) : sw.finishPoll.tmp = sw.tmp := rfl
@[simp] theorem finishPoll_actualLen (sw : HostSw) : sw.finishPoll.actualLen = sw.len := rfl
@[simp] theorem finishPoll_success (sw : HostSw) : sw.finishPoll.success = true := rfl
@[simp] theorem finishPoll_word (sw : HostSw) : sw.finishPoll.word = sw.word := rfl
@[simp] theorem finishPoll_mem (sw : HostSw) : sw.finishPoll.mem = sw.mem := rfl

end Sys2Proof.Machine
end

