-- ==== Sys2Proof/Laws/Access.lean ====
section
/-! SUPPORT. What a HOST access can do, said once: the twelve effects on BCSH, and that nothing but
BCSH and the bus answer changes. -/

namespace Sys2Proof.Machine

/-- The effects an access can have on BCSH (45_register_access.md R200 to R206, 60_exceptions.md
R234). -/
inductive AccessEffect (p : Params) (b : Bcsh) : Bcsh → Prop where
  | same : AccessEffect p b b
  | illegal : AccessEffect p b (b.cmdError .illegal)
  | busy (h : b.state ≠ .idle) : AccessEffect p b (b.cmdError .busy)
  | notInit (h : b.state = .idle) (hd : b.initDone = false) : AccessEffect p b (b.cmdError .notInit)
  | initAgain (h : b.state = .idle) (hd : b.initDone = true) :
      AccessEffect p b (Bcsh.complete { b with errCode := ErrCause.none.code })
  | fillStart (opc : BitVec 3) (ho : opc = 1 ∨ opc = 5) (h : b.state = .idle)
      (hd : b.initDone = false) :
      AccessEffect p b { b.startCommand opc .initFill with fillIdx := 0 }
  | bitStart (h : b.state = .idle) (hd : b.initDone = true) :
      AccessEffect p b (b.startCommand 2 .xbit)
  | wordStart (h : b.state = .idle) (hd : b.initDone = true) :
      AccessEffect p b (b.startCommand 3 .xword).wordStart
  | armStart (opc : BitVec 3) (ho : opc = 4 ∨ opc = 5) (h : b.state = .idle)
      (hd : b.initDone = true) : AccessEffect p b (b.startCommand opc .hArm)
  | ctrl (w : Word) : AccessEffect p b (ctrlWrite p w b)
  | intsts (w : Word) : AccessEffect p b (b.clearFlags w)
  | band (lo hi : Sample) : AccessEffect p b { b with bandLo := lo, bandHi := hi }

/-- The checks of a command, said once (45_register_access.md R201). -/
theorem issue_cases (n : Bool) (f : Bcsh → Bcsh) (b : Bcsh) :
    (b.state ≠ .idle ∧ b.issue n f = b.cmdError .busy) ∨
    (b.state = .idle ∧ n = true ∧ b.initDone = false ∧ b.issue n f = b.cmdError .notInit) ∨
    (b.state = .idle ∧ (n = true → b.initDone = true) ∧ b.issue n f = f b) := by
  unfold Bcsh.issue Bcsh.busy
  by_cases h : b.state = .idle <;> cases n <;> cases hd : b.initDone <;> simp [h]

/-- The effect of a command that needs initialization. -/
theorem issue_effect_needing {p : Params} {b : Bcsh} {f : Bcsh → Bcsh}
    (hf : b.state = .idle → b.initDone = true → AccessEffect p b (f b)) :
    AccessEffect p b (b.issue true f) := by
  rcases issue_cases true f b with ⟨h, e⟩ | ⟨h, -, hd, e⟩ | ⟨h, hd, e⟩ <;> rw [e]
  · exact .busy h
  · exact .notInit h hd
  · exact hf h (hd rfl)

/-- The effect of a command that needs no initialization. -/
theorem issue_effect_free {p : Params} {b : Bcsh} {f : Bcsh → Bcsh}
    (hf : b.state = .idle → AccessEffect p b (f b)) :
    AccessEffect p b (b.issue false f) := by
  rcases issue_cases false f b with ⟨h, e⟩ | ⟨-, h, -⟩ | ⟨h, -, e⟩
  · exact e ▸ .busy h
  · cases h
  · exact e ▸ hf h

/-- INIT's acceptance, by INIT_DONE (42_init.md R150). -/
theorem acceptInit_effect {p : Params} {b : Bcsh} (h : b.state = .idle) :
    AccessEffect p b b.acceptInit := by
  unfold Bcsh.acceptInit
  split
  · exact .initAgain h ‹_›
  · exact .fillStart 1 (.inl rfl) h (by simp_all)

/-- GET_WORD's acceptance, by INIT_DONE (43_harvest.md R175). -/
theorem acceptGetWord_effect {p : Params} {b : Bcsh} (h : b.state = .idle) :
    AccessEffect p b b.acceptGetWord := by
  unfold Bcsh.acceptGetWord
  split
  · exact .armStart 5 (.inr rfl) h ‹_›
  · exact .fillStart 5 (.inr rfl) h (by simp_all)

/-- A state reached by an access: BCSH by one of the effects, the bus answer, nothing else. -/
def AccessTo (s t : State) : Prop :=
  AccessEffect s.par s.b t.b ∧ t = s.answer t.resp t.b

theorem accessTo_answer {s : State} {r : HostResp} {b : Bcsh} (h : AccessEffect s.par s.b b) :
    AccessTo s (s.answer r b) := ⟨h, rfl⟩

/-- Every access answers a next state, by one of the effects. -/
theorem exec_accessTo (i : Instr) (s : State) : ∃ t, exec i s = .next t ∧ AccessTo s t := by
  have write {f : Bcsh → Bcsh} (h : AccessEffect s.par s.b (f s.b)) :
      ∃ t, Host.Outcome.next (φ := Fault) (ρ := Refusal) (s.answerWrite f) = .next t ∧ AccessTo s t :=
    ⟨_, rfl, accessTo_answer h⟩
  have ignored : ∃ t, Host.Outcome.next (φ := Fault) (ρ := Refusal) s.answerIgnored = .next t ∧
      AccessTo s t := ⟨_, rfl, accessTo_answer .same⟩
  have read (w : Word) : ∃ t, Host.Outcome.next (φ := Fault) (ρ := Refusal) (s.answerRead w) = .next t ∧
      AccessTo s t := ⟨_, rfl, accessTo_answer .same⟩
  have init : ∃ t, execInit s = .next t ∧ AccessTo s t := write (issue_effect_free acceptInit_effect)
  have bit : ∃ t, execExtractBit s = .next t ∧ AccessTo s t := write (issue_effect_needing .bitStart)
  have word : ∃ t, execExtractWord s = .next t ∧ AccessTo s t :=
    write (issue_effect_needing .wordStart)
  have harvest : ∃ t, execHarvest s = .next t ∧ AccessTo s t :=
    write (issue_effect_needing (.armStart 4 (.inl rfl)))
  have getWord : ∃ t, execGetWord s = .next t ∧ AccessTo s t :=
    write (issue_effect_free acceptGetWord_effect)
  cases i with
  | nop => exact ignored
  | init => exact init
  | extractBit => exact bit
  | extractWord => exact word
  | harvest => exact harvest
  | getWord => exact getWord
  | wrCmd w =>
    simp only [exec, execWrCmd]
    split
    · exact write .illegal
    · exact ignored
    · exact init
    · exact bit
    · exact word
    · exact harvest
    · exact getWord
  | wrCtrl w => exact write (.ctrl w)
  | wrIntsts w => exact write (.intsts w)
  | wrBandLo w => exact write (.band (sampleField w) s.b.bandHi)
  | wrBandHi w => exact write (.band s.b.bandLo (sampleField w))
  | wrStatus | wrResult | wrSeed | wrSum | wrCursor | wrLasts | wrRejcnt | wrOut | wrWin =>
    exact ignored
  | rdCmd | rdStatus | rdCtrl | rdIntsts | rdResult | rdSeed | rdSum | rdCursor | rdBandLo
  | rdBandHi | rdLasts | rdRejcnt | rdOut | rdWin => exact read _

/-- What an access that answers `t` has done. -/
theorem exec_cases {i : Instr} {s t : State} (h : exec i s = .next t) : AccessTo s t := by
  obtain ⟨u, hu, hs⟩ := exec_accessTo i s
  rw [hu] at h
  cases h
  exact hs

/-- A raw HOST word answers a next state, by one of the effects, whether or not it selects a row. -/
theorem hostStep_accessTo (h : HostWord) (s : State) : ∃ t, hostStep h s = .next t ∧ AccessTo s t := by
  unfold hostStep
  split
  · exact exec_accessTo _ s
  · rename_i e _
    refine ⟨_, rfl, ?_⟩
    cases e
    · exact accessTo_answer .illegal
    · exact accessTo_answer .same
    · exact accessTo_answer .same
    · exact accessTo_answer .same

/-- So does an access by address. -/
theorem memStep_accessTo (a : MemAccess) (s : State) : ∃ t, memStep a s = .next t ∧ AccessTo s t := by
  unfold memStep
  split
  · exact hostStep_accessTo _ s
  · exact ⟨_, rfl, accessTo_answer .same⟩

/-- A step of the HOST software is one access, then a change of the software's own variables. -/
theorem hostAccess_accessTo (i : Instr) (k : Word → HostSw → HostSw) (s : State) :
    ∃ t sw, hostAccess i k s = .next { t with sw := sw } ∧ AccessTo s t := by
  obtain ⟨t, ht, h⟩ := exec_accessTo i s
  exact ⟨t, k t.resp.value t.sw, by simp only [hostAccess, ht], h⟩

/-- The HOST software's step, likewise; between calls nothing happens. -/
theorem programStep_accessTo (s : State) :
    ∃ t sw, programStep s = .next { t with sw := sw } ∧ AccessTo s t := by
  unfold programStep
  split
  · exact ⟨s, s.sw, rfl, .same, rfl⟩
  all_goals exact hostAccess_accessTo _ _ s

end Sys2Proof.Machine
end

