-- ==== Sys2Proof/Laws/Memory.lean ====
section
/-! SUPPORT. Host byte memory keeps its canonical form, and what a write leaves alone. -/

namespace Sys2Proof.Machine

/-- A cell in front of a canonical memory keeps the form when its address is below all others. -/
theorem Memory.wf_cons {c : Host.Cell} {m : Memory} :
    Memory.wf (c :: m) = true ↔ (∀ x ∈ m.head?, c.1 < x.1) ∧ Memory.wf m = true := by
  cases m with
  | nil => simp [Memory.wf]
  | cons b m => simp [Memory.wf]

/-- Where the first cell of a memory stands after a write: at the address written, or where it was. -/
theorem Memory.head_write (m : Memory) (a : Nat) (v : Byte) :
    ∀ x ∈ (m.write a v).head?, x.1 = a ∨ ∃ y ∈ m.head?, x.1 = y.1 := by
  cases m with
  | nil => simp [Memory.write]
  | cons c m =>
    unfold Memory.write
    split_ifs <;> simp

/-- A write keeps the canonical form. -/
theorem Memory.wf_write (m : Memory) (a : Nat) (v : Byte) (h : m.wf = true) :
    (m.write a v).wf = true := by
  induction m with
  | nil => rfl
  | cons c m ih =>
    rw [Memory.wf_cons] at h
    unfold Memory.write
    split_ifs with h1 h2
    · exact Memory.wf_cons.2 ⟨by simpa using h1, Memory.wf_cons.2 h⟩
    · exact Memory.wf_cons.2 ⟨by simpa [h2] using h.1, h.2⟩
    · refine Memory.wf_cons.2 ⟨fun x hx => ?_, ih h.2⟩
      rcases Memory.head_write m a v x hx with hxa | ⟨y, hy, hxy⟩
      · omega
      · have := h.1 y hy
        omega

/-- Writing several bytes keeps the canonical form. -/
theorem Memory.wf_writeBytes (vs : List Byte) (m : Memory) (a : Nat) (h : m.wf = true) :
    (m.writeBytes a vs).wf = true := by
  induction vs generalizing m a with
  | nil => exact h
  | cons v vs ih => exact ih _ _ (Memory.wf_write m a v h)

/-- The host software's three ways to write memory keep the canonical form. -/
theorem HostSw.wf_afterOut (w : Word) (sw : HostSw) (h : sw.mem.wf = true) :
    (sw.afterOut w).mem.wf = true := by
  have hput : (sw.putWord w).mem.wf = true := by
    unfold HostSw.putWord
    split
    · exact Memory.wf_writeBytes _ _ _ h
    · exact h
  unfold HostSw.afterOut
  split
  · unfold HostSw.blockDone
    split
    · split <;> exact hput
    · exact Memory.wf_writeBytes _ _ _ hput
  · exact hput

/-- A read after a write: the byte written there, every other byte as it was. -/
theorem Memory.read_write (m : Memory) (a x : Nat) (v : Byte) :
    (m.write a v).read x = if x = a then some v else m.read x := by
  induction m with
  | nil => simp [Memory.write, Memory.read, eq_comm]
  | cons c m ih =>
    unfold Memory.write
    split_ifs <;> simp only [Memory.read, ih] <;> split_ifs <;> first | rfl | omega

/-- A read after several bytes were written. -/
theorem Memory.read_writeBytes (vs : List Byte) (m : Memory) (a x : Nat) :
    (m.writeBytes a vs).read x =
      if h : a ≤ x ∧ x < a + vs.length then some (vs[x - a]'(by omega)) else m.read x := by
  induction vs generalizing m a with
  | nil =>
    rw [dif_neg (by simp)]
    rfl
  | cons v vs ih =>
    simp only [Memory.writeBytes, ih, Memory.read_write, List.length_cons]
    by_cases h : a + 1 ≤ x ∧ x < a + 1 + vs.length
    · rw [dif_pos h, dif_pos (by omega)]
      have : x - a = (x - (a + 1)) + 1 := by omega
      simp [this]
    · rw [dif_neg h]
      by_cases hx : x = a
      · subst hx; simp
      · rw [if_neg hx, dif_neg (by omega)]

end Sys2Proof.Machine
end

