-- ==== Sys2Proof/Laws/PerInstr.lean ====
section
/-! SUPPORT. A fact about every instruction as syntax, one lemma per constructor: its encoding is a
raw host word that selects a row (30_encoding.md R82, R86). -/

namespace Sys2Proof.Laws.EncodeWellFormed

/-- The encoding of the instruction is a well-formed raw host word. -/
def Statement (i : Instr) : Prop := (encode i).wellFormed = true

theorem nop : Statement .nop := rfl

theorem init : Statement .init := rfl

theorem extractBit : Statement .extractBit := rfl

theorem extractWord : Statement .extractWord := rfl

theorem harvest : Statement .harvest := rfl

theorem getWord : Statement .getWord := rfl

theorem rdCmd : Statement .rdCmd := rfl

theorem wrCmd (w : Word) : Statement (.wrCmd w) := rfl

theorem rdStatus : Statement .rdStatus := rfl

theorem wrStatus (w : Word) : Statement (.wrStatus w) := rfl

theorem rdCtrl : Statement .rdCtrl := rfl

theorem wrCtrl (w : Word) : Statement (.wrCtrl w) := rfl

theorem rdIntsts : Statement .rdIntsts := rfl

theorem wrIntsts (w : Word) : Statement (.wrIntsts w) := rfl

theorem rdResult : Statement .rdResult := rfl

theorem wrResult (w : Word) : Statement (.wrResult w) := rfl

theorem rdSeed : Statement .rdSeed := rfl

theorem wrSeed (w : Word) : Statement (.wrSeed w) := rfl

theorem rdSum : Statement .rdSum := rfl

theorem wrSum (w : Word) : Statement (.wrSum w) := rfl

theorem rdCursor : Statement .rdCursor := rfl

theorem wrCursor (w : Word) : Statement (.wrCursor w) := rfl

theorem rdBandLo : Statement .rdBandLo := rfl

theorem wrBandLo (w : Word) : Statement (.wrBandLo w) := rfl

theorem rdBandHi : Statement .rdBandHi := rfl

theorem wrBandHi (w : Word) : Statement (.wrBandHi w) := rfl

theorem rdLasts : Statement .rdLasts := rfl

theorem wrLasts (w : Word) : Statement (.wrLasts w) := rfl

theorem rdRejcnt : Statement .rdRejcnt := rfl

theorem wrRejcnt (w : Word) : Statement (.wrRejcnt w) := rfl

theorem rdOut (k : BitVec 3) : Statement (.rdOut k) := by
  revert k; unfold Statement; decide

theorem wrOut (k : BitVec 3) (w : Word) : Statement (.wrOut k w) := by
  have h : ∀ j, (encode (.wrOut j 0#32)).wellFormed = true := by decide
  exact h k

theorem rdWin (k : BitVec 5) : Statement (.rdWin k) := by
  revert k; unfold Statement; decide

theorem wrWin (k : BitVec 5) (w : Word) : Statement (.wrWin k w) := by
  have h : ∀ j, (encode (.wrWin j 0#32)).wellFormed = true := by decide
  exact h k

end Sys2Proof.Laws.EncodeWellFormed
end

