-- ==== Sys2Proof/Laws/Sequencer.lean ====
section
/-! SUPPORT. What a step of SEQ can do, said once, and what an event can do. -/

namespace Sys2Proof.Machine

/-- The repetition-count test writes only its own two registers and HLTHIF. -/
theorem rctObserve_eq (p : Params) (d : Sample) (b : Bcsh) :
    ∃ c l h, rctObserve p d b = { b with rctCnt := c, rctLast := l, hlthIf := h } ∧
      (b.hlthIf = true → h = true) ∧ (p.hasRct = false → c = b.rctCnt ∧ l = b.rctLast) := by
  unfold rctObserve
  split
  · rename_i hc
    refine ⟨_, _, _, rfl, by simp_all, by simp_all⟩
  · exact ⟨b.rctCnt, b.rctLast, b.hlthIf, rfl, id, fun _ => ⟨rfl, rfl⟩⟩

/-- The extractor's state writes only VNPH and VNB1, and nothing where the unit is absent. -/
theorem condState_eq (p : Params) (bit : Bool) (b : Bcsh) :
    ∃ ph b1, condState p bit b = { b with vnph := ph, vnb1 := b1 } ∧
      (p.hasVn = false → ph = b.vnph ∧ b1 = b.vnb1) := by
  unfold condState
  split
  · split
    · exact ⟨false, b.vnb1, rfl, by simp_all⟩
    · split
      · exact ⟨true, bit, rfl, by simp_all⟩
      · exact ⟨b.vnph, b.vnb1, rfl, by simp_all⟩
  · exact ⟨b.vnph, b.vnb1, rfl, fun _ => ⟨rfl, rfl⟩⟩

/-- BCSH after the window has taken a sample and the conditioner has seen its bit, before a
conditioned bit is delivered (40_bias_corrector.md R106 to R110). -/
def TakenSample (p : Params) (d : Sample) (b c : Bcsh) : Prop :=
  ∃ rc rl h ph b1,
    c = { b with
          retry := 0, lasts := d
          win := windowPut b.win b.cursor d
          sum := sumReplace b.sum (windowSlot b.win b.cursor) d
          cursor := b.cursor + 1
          rctCnt := rc, rctLast := rl, hlthIf := h, vnph := ph, vnb1 := b1 } ∧
    (b.hlthIf = true → h = true) ∧
    (p.hasRct = false → rc = b.rctCnt ∧ rl = b.rctLast) ∧
    (p.hasVn = false → ph = b.vnph ∧ b1 = b.vnb1)

/-- An accepted sample: taken, and either no bit comes out or one bit is delivered. -/
theorem acceptSample_cases (p : Params) (d : Sample) (b : Bcsh) :
    ∃ c, TakenSample p d b c ∧
      (acceptSample p d b = c ∨ ∃ bit, acceptSample p d b = deliver bit c) := by
  obtain ⟨rc, rl, h, e1, hh, hr⟩ := rctObserve_eq p d { b with retry := 0, lasts := d }
  obtain ⟨ph, b1, e2, hv⟩ :=
    condState_eq p (debiasedBit (observe p d b) d) (evictInsert d (observe p d b))
  refine ⟨condState p (debiasedBit (observe p d b) d) (evictInsert d (observe p d b)),
    ⟨rc, rl, h, ph, b1, ?_, hh, hr, ?_⟩, ?_⟩
  · rw [e2]; unfold observe; rw [e1]; rfl
  · intro hp
    obtain ⟨x, y⟩ := hv hp
    rw [x, y]; unfold observe; rw [e1]; exact ⟨rfl, rfl⟩
  · unfold acceptSample
    dsimp only
    split
    · exact .inl rfl
    · exact .inr ⟨_, rfl⟩

/-- A corrector step: a counted rejection, an abort, or an accepted sample. -/
theorem correctorStep_cases (p : Params) (d : Sample) (b : Bcsh) :
    (inBand b d = false ∧ correctorStep p d b = countRejection b) ∨
    (inBand b d = false ∧ correctorStep p d b = (countRejection b).abort .retryLimit) ∨
    (inBand b d = true ∧ ∃ c, TakenSample p d b c ∧
      (correctorStep p d b = c ∨ ∃ bit, correctorStep p d b = deliver bit c)) := by
  unfold correctorStep
  by_cases h : inBand b d = true
  · rw [if_pos h]
    exact .inr (.inr ⟨h, acceptSample_cases p d b⟩)
  · rw [if_neg h]
    unfold reject
    split
    · exact .inr (.inl ⟨by simpa using h, rfl⟩)
    · exact .inl ⟨by simpa using h, rfl⟩

/-- The end of initialization: the command completes, or goes on to a harvest. -/
theorem endOfInit_cases (b : Bcsh) :
    (b.op = 1 ∧ endOfInit b = Bcsh.complete { b with initDone := true }) ∨
    (b.op = 5 ∧ endOfInit b = { b with initDone := true, state := .hArm }) ∨
    (b.op ≠ 1 ∧ b.op ≠ 5 ∧ endOfInit b = { b with initDone := true }) := by
  unfold endOfInit
  split_ifs with h1 h5
  · exact .inl ⟨h1, rfl⟩
  · exact .inr (.inl ⟨h5, rfl⟩)
  · exact .inr (.inr ⟨h1, h5, rfl⟩)

/-- A delivered bit (41_aggregator_conditioner.md R132, R133, R137): EXTRACT_BIT's end; a shift-in;
or the end of a word in each of the three word states. Elsewhere nothing. -/
theorem deliver_cases (c : Bool) (b : Bcsh) :
    (b.state = .xbit ∧
      deliver c b = Bcsh.complete { b with result := (BitVec.ofBool c).setWidth 32 }) ∨
    ((b.state = .initDiscard ∨ b.state = .xword ∨ b.state = .hSeed) ∧ b.bitcnt + 1 ≠ 32 ∧
      deliver c b = shiftIn c b) ∨
    (b.state = .initDiscard ∧ b.bitcnt + 1 = 32 ∧
      deliver c b = endOfInit (shiftIn c b).wordStart) ∨
    (b.state = .xword ∧ b.bitcnt + 1 = 32 ∧
      deliver c b = Bcsh.complete { shiftIn c b with result := (shiftIn c b).sr, sr := 0, bitcnt := 0 }) ∨
    (b.state = .hSeed ∧ b.bitcnt + 1 = 32 ∧
      deliver c b = { shiftIn c b with bitcnt := 0, state := .hStart }) ∨
    ((b.state.sampling = false ∨ b.state = .initFill) ∧ deliver c b = b) := by
  have shift (hs : b.state = .initDiscard ∨ b.state = .xword ∨ b.state = .hSeed) :
      deliver c b = shiftBit c b := by
    rcases hs with hs | hs | hs <;> simp only [deliver, hs]
  have more (h : b.bitcnt + 1 ≠ 32) : shiftBit c b = shiftIn c b := if_neg h
  have last (h : b.bitcnt + 1 = 32) : shiftBit c b = wordDone (shiftIn c b) := if_pos h
  by_cases hw : b.state = .initDiscard ∨ b.state = .xword ∨ b.state = .hSeed
  · by_cases h : b.bitcnt + 1 = 32
    · rw [shift hw, last h]
      rcases hw with hs | hs | hs
      · exact .inr (.inr (.inl ⟨hs, h, by simp only [wordDone, shiftIn_state, hs]⟩))
      · exact .inr (.inr (.inr (.inl ⟨hs, h, by simp only [wordDone, shiftIn_state, hs]⟩)))
      · exact .inr (.inr (.inr (.inr (.inl ⟨hs, h, by simp only [wordDone, shiftIn_state, hs]⟩))))
    · exact .inr (.inl ⟨hw, h, (shift hw).trans (more h)⟩)
  · clear shift more last
    cases hs : b.state <;> simp_all [deliver, SeqState.sampling]

/-- A fill step: the slot filled, and at the 32nd the discard word started (42_init.md R151). -/
theorem fillStep_cases (d : Sample) (b : Bcsh) :
    (b.fillIdx + 1 ≠ 32 ∧ fillStep d b = fillPut d b) ∨
    (b.fillIdx + 1 = 32 ∧ fillStep d b =
      Bcsh.wordStart { fillPut d b with cursor := 0, fillIdx := 0, state := .initDiscard }) := by
  unfold fillStep
  by_cases h : (fillPut d b).fillIdx = 32
  · exact .inr ⟨h, if_pos h⟩
  · exact .inl ⟨h, if_neg h⟩

/-- What SEQ's step does to BCSH. -/
inductive SeqEffect (p : Params) (accOut : Block) (d : Sample) (b : Bcsh) : Bcsh → Prop where
  | idle (h : b.state = .idle) : SeqEffect p accOut d b b
  | fill (h : b.state = .initFill) : SeqEffect p accOut d b (fillStep d b)
  | corrector (h : b.state = .initDiscard ∨ b.state = .xbit ∨ b.state = .xword ∨ b.state = .hSeed) :
      SeqEffect p accOut d b (correctorStep p d b)
  | arm (h : b.state = .hArm) : SeqEffect p accOut d b (hArmStep b)
  | start (h : b.state = .hStart) : SeqEffect p accOut d b (hStartBcsh p b)
  | clear (h : b.state = .hClear) : SeqEffect p accOut d b (hClearStep b)
  | held (h : b.state = .hWait) (hd : b.prngDone = false) : SeqEffect p accOut d b b
  | go (h : b.state = .hWait) (hd : b.prngDone = true) :
      SeqEffect p accOut d b { b with state := .hRead }
  | read (h : b.state = .hRead) : SeqEffect p accOut d b (hReadStep accOut b)

/-- A SEQ step that answers `t`: an effect on BCSH; the accelerator changes in H_START only, which
needs it not busy; nothing else changes. -/
theorem seqStep_cases {d : Sample} {s t : State} (h : seqStep d s = .next t) :
    SeqEffect s.par s.acc.out d s.b t.b ∧
    ((s.b.state ≠ .hStart ∧ t = { s with b := t.b }) ∨
     (s.b.state = .hStart ∧ s.acc.busy = false ∧
      t = { s with b := t.b, acc := s.acc.accept (startEvent s) })) := by
  unfold seqStep at h
  split at h
  · cases h
  split at h
  case h_8 hs =>
    unfold hStartStep at h
    split at h
    · cases h
    · cases h
      exact ⟨.start hs, .inr ⟨hs, by simp_all, rfl⟩⟩
  case h_10 hs =>
    cases h
    refine ⟨?_, .inl ⟨by simp [hs], rfl⟩⟩
    unfold hWaitStep
    split
    · exact .go hs ‹_›
    · exact .held hs (by simp_all)
  all_goals
    rename_i hs
    cases h
    refine ⟨?_, .inl ⟨by simp [hs], rfl⟩⟩
  · exact .idle hs
  · exact .fill hs
  · exact .corrector (.inl hs)
  · exact .corrector (.inr (.inl hs))
  · exact .corrector (.inr (.inr (.inl hs)))
  · exact .arm hs
  · exact .corrector (.inr (.inr (.inr hs)))
  · exact .clear hs
  · exact .read hs

/-- DISP's step: one source served, or nothing (43_harvest.md R172, R173). -/
theorem dispStep_cases (s : State) :
    (s.acc.prngIf = true ∧ dispStep s =
      { s with b := { s.b with prngDone := true }, acc := { s.acc with prngIf := false } }) ∨
    (s.acc.prngIf = false ∧ s.acc.aesIf = true ∧ dispStep s =
      { s with b := { s.b with aesIf := true }, acc := { s.acc with aesIf := false } }) ∨
    (s.accIrq = false ∧ dispStep s = s) := by
  unfold dispStep
  cases hi : s.accIrq
  · exact .inr (.inr ⟨rfl, rfl⟩)
  · cases hp : s.acc.prngIf
    · cases ha : s.acc.aesIf
      · simp [State.accIrq, hp, ha] at hi
      · exact .inr (.inl ⟨rfl, rfl, rfl⟩)
    · exact .inl ⟨rfl, rfl⟩

/-- What an event that is taken can do: a HOST access, by raw word, by address or by the HOST
software (which then changes its own variables); a step of SEQ or DISP; a step of the accelerator
(with the accelerator alone changed); or the reset. -/
theorem takeEvent_cases {e : Event} {s t : State} (h : takeEvent e s = .next t) :
    (∃ u sw, AccessTo s u ∧ t = { u with sw := sw } ∧
      ((∃ w, e = .host w) ∨ (∃ a, e = .mem a) ∨ (∃ c, e = .call c) ∨ e = .program)) ∨
    (∃ d, e = .seq d ∧ seqStep d s = .next t) ∨
    (e = .disp ∧ t = dispStep s) ∨
    (((∃ o, e = .accDone o ∧ t.acc = accDoneStep s.par o s.acc) ∨
      (e = .accAesDone ∧ t.acc = accAesDoneStep s.acc) ∨
      (∃ on, e = .accAesIe on ∧ t.acc = accAesIeStep on s.acc)) ∧ t = { s with acc := t.acc }) ∨
    (e = .reset ∧ t = s.assertReset) := by
  cases e with
  | host w =>
    obtain ⟨u, hu, ha⟩ := hostStep_accessTo w s
    rw [takeEvent, hu] at h
    obtain rfl : u = t := by simpa using h
    exact .inl ⟨u, u.sw, ha, rfl, .inl ⟨w, rfl⟩⟩
  | mem a =>
    obtain ⟨u, hu, ha⟩ := memStep_accessTo a s
    rw [takeEvent, hu] at h
    obtain rfl : u = t := by simpa using h
    exact .inl ⟨u, u.sw, ha, rfl, .inr (.inl ⟨a, rfl⟩)⟩
  | call c =>
    cases h
    exact .inl ⟨s, s.sw.call c, ⟨.same, rfl⟩, rfl, .inr (.inr (.inl ⟨c, rfl⟩))⟩
  | program =>
    obtain ⟨u, sw, hu, ha⟩ := programStep_accessTo s
    rw [takeEvent, hu] at h
    cases h
    exact .inl ⟨u, sw, ha, rfl, .inr (.inr (.inr rfl))⟩
  | seq d => exact .inr (.inl ⟨d, rfl, h⟩)
  | disp => cases h; exact .inr (.inr (.inl ⟨rfl, rfl⟩))
  | accDone o => cases h; exact .inr (.inr (.inr (.inl ⟨.inl ⟨o, rfl, rfl⟩, rfl⟩)))
  | accAesDone => cases h; exact .inr (.inr (.inr (.inl ⟨.inr (.inl ⟨rfl, rfl⟩), rfl⟩)))
  | accAesIe on => cases h; exact .inr (.inr (.inr (.inl ⟨.inr (.inr ⟨on, rfl, rfl⟩), rfl⟩)))
  | reset => cases h; exact .inr (.inr (.inr (.inr ⟨rfl, rfl⟩)))

/-- A step takes one event: the oldest listed one, or the schedule's next. -/
theorem step_cases {s t : State} (h : step s = .next t) :
    ∃ e s', takeEvent e s' = .next t ∧ s'.par = s.par ∧ s'.b = s.b ∧ s'.acc = s.acc ∧
      s'.adcConfigured = s.adcConfigured ∧ s'.sw = s.sw ∧ s'.resp = s.resp := by
  unfold step at h
  split at h
  · exact ⟨_, _, h, rfl, rfl, rfl, rfl, rfl, rfl⟩
  · exact ⟨_, _, h, rfl, rfl, rfl, rfl, rfl, rfl⟩

end Sys2Proof.Machine
end

