-- ==== Sys2Proof/Laws/Window.lean ====
section
/-! SUPPORT. What the operations on numbers, samples and the window do, said once. -/

namespace Sys2Proof.Machine

/-- `sat32(x + 1)` as a number. -/
theorem satInc32_toNat (x : Word) : (satInc32 x).toNat = min (x.toNat + 1) 0xFFFFFFFF := by
  unfold satInc32
  split
  · rename_i h; subst h; rfl
  · bv_omega

/-- `min(x + 1, 0xFFFF)` as a number. -/
theorem satInc16_toNat (x : BitVec 16) : (satInc16 x).toNat = min (x.toNat + 1) 0xFFFF := by
  unfold satInc16
  split
  · rename_i h; subst h; rfl
  · bv_omega

/-- The band test on numbers. -/
theorem inBand_iff (b : Bcsh) (d : Sample) :
    inBand b d = true ↔ b.bandLo.toNat ≤ d.toNat ∧ d.toNat ≤ b.bandHi.toNat := by
  simp [inBand, BitVec.le_def]

/-- The average is SUM / 32, truncated. -/
theorem average_toNat (b : Bcsh) : (average b).toNat = b.sum.toNat / 32 := by
  unfold average
  have := b.sum.isLt
  simp [Nat.shiftRight_eq_div_pow]
  omega

/-- The comparator on numbers. -/
theorem debiasedBit_eq (b : Bcsh) (d : Sample) :
    debiasedBit b d = decide (d.toNat ≤ b.sum.toNat / 32) := by
  simp only [debiasedBit, BitVec.le_def, average_toNat]

/-- A slot after one slot has been replaced. -/
theorem windowSlot_put (v : Window) (i j : BitVec 5) (d : Sample) :
    windowSlot (windowPut v i d) j = if i = j then d else windowSlot v j := by
  unfold windowSlot windowPut
  rw [Vector.getElem_set]
  simp [BitVec.toNat_inj]

/-- The sum of a list after one entry has been replaced. -/
theorem sum_set (l : List Sample) (i : Nat) (d : Sample) (h : i < l.length) :
    ((l.set i d).map BitVec.toNat).sum + (l[i]).toNat = (l.map BitVec.toNat).sum + d.toNat := by
  induction l generalizing i with
  | nil => simp at h
  | cons a l ih =>
    cases i with
    | zero =>
      simp only [List.set_cons_zero, List.map_cons, List.sum_cons, List.getElem_cons_zero]
      omega
    | succ i =>
      simp only [List.length_cons, Nat.add_lt_add_iff_right] at h
      have := ih i h
      simp only [List.set_cons_succ, List.map_cons, List.sum_cons, List.getElem_cons_succ]
      omega

/-- Σ WIN after one slot has been replaced. -/
theorem windowSum_put (v : Window) (i : BitVec 5) (d : Sample) :
    windowSum (windowPut v i d) + (windowSlot v i).toNat = windowSum v + d.toNat := by
  have := sum_set v.toList i.toNat d (by have := i.isLt; simp; omega)
  simpa only [windowSum, windowPut, windowSlot, Vector.toList_set, Vector.getElem_toList] using this

/-- Σ WIN is at most 32 * 4095, so it fits SUM's 17 bits. -/
theorem windowSum_le (v : Window) : windowSum v ≤ 131040 := by
  have bound (l : List Sample) : (l.map BitVec.toNat).sum ≤ l.length * 4095 := by
    induction l with
    | nil => simp
    | cons a l ih => have := a.isLt; simp; omega
  simpa [windowSum] using bound v.toList

/-- Where SUM is exact, replacing a slot keeps it exact (10_state.md R22). -/
theorem sumReplace_toNat (v : Window) (i : BitVec 5) (d : Sample) (s : BitVec 17)
    (h : s.toNat = windowSum v) :
    (sumReplace s (windowSlot v i) d).toNat = windowSum (windowPut v i d) := by
  have h1 := windowSum_put v i d
  have h2 := windowSum_le (windowPut v i d)
  have h3 := windowSum_put v i 0
  have h4 := windowSum_le v
  have h5 := (windowSlot v i).isLt
  have h6 := d.isLt
  simp only [BitVec.ofNat_eq_ofNat, BitVec.toNat_ofNat, Nat.zero_mod] at h3
  simp only [sumReplace, BitVec.toNat_add, BitVec.toNat_sub, BitVec.toNat_setWidth]
  omega

end Sys2Proof.Machine
end

