-- ==== Sys2Proof/Laws/Run.lean ====
section
/-! SUPPORT. Runs of events, and the window seen from its oldest sample. -/

namespace Sys2Proof.Machine

/-- A run of events in two parts. -/
theorem takeEvents_append (l m : List Event) (s : State) :
    takeEvents (l ++ m) s =
      match takeEvents l s with
      | .next t => takeEvents m t
      | .fault r => .fault r
      | .refused r => .refused r := by
  induction l generalizing s with
  | nil => rfl
  | cons e l ih =>
    simp only [List.cons_append, takeEvents]
    cases takeEvent e s <;> simp [ih]

/-- The window has 32 slots, from whichever it is read. -/
theorem oldestFirst_length (b : Bcsh) : b.oldestFirst.length = 32 := by simp [Bcsh.oldestFirst]

/-- Σ WIN does not depend on the slot it is added up from. -/
theorem oldestFirst_sum (b : Bcsh) : (b.oldestFirst.map BitVec.toNat).sum = windowSum b.win :=
  ((List.rotate_perm _ _).map _).sum_eq

/-- The oldest sample leaves and the new one becomes the youngest (40_bias_corrector.md R109). -/
theorem oldestFirst_evictInsert (d : Sample) (b : Bcsh) :
    (evictInsert d b).oldestFirst = b.oldestFirst.tail ++ [d] := by
  show (windowPut b.win b.cursor d).toList.rotate (b.cursor + 1).toNat =
    (b.win.toList.rotate b.cursor.toNat).tail ++ [d]
  have hl : b.win.toList.length = 32 := by simp
  have hc := b.cursor.isLt
  have hm : (b.cursor + 1).toNat = (b.cursor.toNat + 1) % 32 := by bv_omega
  rw [windowPut, Vector.toList_set, hm]
  generalize b.win.toList = l at *
  generalize b.cursor.toNat = n at *
  rw [show 32 = (l.set n d).length by simpa using hl.symm, List.rotate_mod,
    List.rotate_eq_drop_append_take (by simp; omega), List.rotate_eq_drop_append_take (by omega),
    List.take_succ_eq_append_getElem (by simp; omega), List.drop_set, if_pos (by omega), List.take_set,
    List.set_eq_of_length_le (by simp)]
  have ht : (l.drop n ++ l.take n).tail = l.drop (n + 1) ++ l.take n := by
    rw [List.drop_eq_getElem_cons (by omega : n < l.length)]
    rfl
  rw [ht]
  simp

/-- The shift-in on numbers (41_aggregator_conditioner.md R132). -/
theorem shiftIn_toNat (c : Bool) (b : Bcsh) :
    (shiftIn c b).sr.toNat = (2 * b.sr.toNat + c.toNat) % 2 ^ 32 := by
  have h : (shiftIn c b).sr = b.sr <<< 1 + (BitVec.ofBool c).setWidth 32 := by
    rw [shiftIn_sr, BitVec.add_eq_or_of_and_eq_zero]
    ext i hi
    simp
    omega
  rw [h]
  cases c <;> simp [BitVec.toNat_shiftLeft, Nat.shiftLeft_eq] <;> omega

end Sys2Proof.Machine
end

