-- ==== Sys2Proof/Tests/Slice0.lean ====
section
/-! SUPPORT. Tests on fixed values. The expected values come from the encodings of 30_encoding.md and
from the vectors of 95_test_vectors.md, named where used; the theorems `witness_…` show concrete
states and operands that meet the hypotheses of the statement they are named after. -/

namespace Sys2Proof.Tests

open Sys2Proof Sys2Proof.Machine

set_option maxRecDepth 8000

/-! Helpers -/

/-- Parameters with P_BASE = 0x40000000, P_BAND_CENTER = 1000 and P_RCT_CUTOFF = 3. -/
def params (c : CondUnits) (o : ClearOrder) (l : Option Nat) : Params where
  base := 0x40000000#32
  bandCenter := 1000#12
  bandTol := 50#12
  mode256Code := 1
  clearOrder := o
  retryLimit := l
  cond := c
  rctCutoff := 3
  prngFnGiven := false

/-- No conditioner, CLEAR_THEN_START, no retry bound. -/
def plain : Params := params .none .clearThenStart none

/-- An idle accelerator. -/
def idleAcc : Acc := ⟨false, false, false, false, Vector.replicate 8 0#32, none⟩

/-- A state after reset with `p`, BCSH changed by `f`. -/
def start (p : Params) (f : Bcsh → Bcsh) : State :=
  { State.resetWith p with b := f (Bcsh.reset p), acc := idleAcc }

/-- W(v, c) of 95_test_vectors.md with band [lo, hi]. -/
def uniform (v : Sample) (c : BitVec 5) (lo hi : Sample) (b : Bcsh) : Bcsh :=
  { b with
    initDone := true, win := Vector.replicate 32 v, sum := BitVec.ofNat 17 (32 * v.toNat), cursor := c
    bandLo := lo, bandHi := hi }

/-- W(v, c) in a state of SEQ, with an opcode in progress. -/
def running (p : Params) (st : SeqState) (op : BitVec 3) (v : Sample) (c : BitVec 5) (lo hi : Sample) :
    State := start p fun b => { uniform v c lo hi b with state := st, op := op }

/-- What `g` reads in the next state, if there is one. -/
def after {α : Type} (o : Host.Outcome State Fault Refusal) (g : State → α) : Option α :=
  match o with
  | .next t => some (g t)
  | .fault _ => none
  | .refused _ => none

/-! WellFormed: an ill-formed word or parameter for each check -/

theorem test_refuses_reserved_bit : (HostWord.cmd 0x00000008#32).wellFormed = false := by decide
theorem test_refuses_reserved_top_bit : (HostWord.cmd 0x80000001#32).wellFormed = false := by decide
theorem test_refuses_opcode_six : (HostWord.cmd 6#32).wellFormed = false := by decide
theorem test_refuses_opcode_seven : (HostWord.cmd 7#32).wellFormed = false := by decide
theorem test_refuses_size_three : (HostWord.bus 0x604#11 0#32).wellFormed = false := by decide
theorem test_refuses_size_one : (HostWord.bus 0x308#11 0#32).wellFormed = false := by decide
theorem test_refuses_misaligned : (HostWord.bus 0x406#11 0#32).wellFormed = false := by decide
theorem test_refuses_first_hole : (HostWord.bus 0x43C#11 0#32).wellFormed = false := by decide
theorem test_refuses_second_hole : (HostWord.bus 0x460#11 0#32).wellFormed = false := by decide
theorem test_accepts_around_the_holes :
    ([0x42C#11, 0x440#11, 0x45C#11, 0x480#11].all fun a => (HostWord.bus a 0#32).wellFormed) = true := by
  decide
theorem test_refuses_unaligned_base :
    { plain with base := 0x40000080#32 }.baseAligned = false := by decide
theorem test_refuses_retry_limit_zero : { plain with retryLimit := some 0 }.retryLegal = false := by
  decide
theorem test_refuses_cutoff_one : { plain with rctCutoff := 1 }.cutoffLegal = false := by decide
theorem test_refuses_cutoff_too_large : { plain with rctCutoff := 0x10000 }.cutoffLegal = false := by
  decide
theorem test_accepts_plain_parameters : plain.wellFormed = true := by decide
theorem test_refuses_unsorted_memory : Memory.wf [(5, 1#8), (4, 2#8)] = false := by decide
theorem test_refuses_repeated_address : Memory.wf [(5, 1#8), (5, 2#8)] = false := by decide

/-! Decoding: a word for every constructor, written out from R81, R82, R86 and R88 as
SIZE_W_OFF -/

theorem test_decode_nop : decode (.cmd 0b00000000000000000000000000000_000#32) = .ok .nop := by decide
theorem test_decode_init : decode (.cmd 0b00000000000000000000000000000_001#32) = .ok .init := by decide
theorem test_decode_extractBit :
    decode (.cmd 0b00000000000000000000000000000_010#32) = .ok .extractBit := by decide
theorem test_decode_extractWord :
    decode (.cmd 0b00000000000000000000000000000_011#32) = .ok .extractWord := by decide
theorem test_decode_harvest :
    decode (.cmd 0b00000000000000000000000000000_100#32) = .ok .harvest := by decide
theorem test_decode_getWord :
    decode (.cmd 0b00000000000000000000000000000_101#32) = .ok .getWord := by decide
theorem test_decode_rdCmd : decode (.bus 0b10_0_00000000#11 7#32) = .ok .rdCmd := by decide
theorem test_decode_wrCmd : decode (.bus 0b10_1_00000000#11 7#32) = .ok (.wrCmd 7#32) := by decide
theorem test_decode_rdStatus : decode (.bus 0b10_0_00000100#11 0#32) = .ok .rdStatus := by decide
theorem test_decode_wrStatus : decode (.bus 0b10_1_00000100#11 7#32) = .ok (.wrStatus 7#32) := by decide
theorem test_decode_rdCtrl : decode (.bus 0b10_0_00001000#11 0#32) = .ok .rdCtrl := by decide
theorem test_decode_wrCtrl : decode (.bus 0b10_1_00001000#11 7#32) = .ok (.wrCtrl 7#32) := by decide
theorem test_decode_rdIntsts : decode (.bus 0b10_0_00001100#11 0#32) = .ok .rdIntsts := by decide
theorem test_decode_wrIntsts : decode (.bus 0b10_1_00001100#11 7#32) = .ok (.wrIntsts 7#32) := by decide
theorem test_decode_rdResult : decode (.bus 0b10_0_00010000#11 0#32) = .ok .rdResult := by decide
theorem test_decode_wrResult : decode (.bus 0b10_1_00010000#11 7#32) = .ok (.wrResult 7#32) := by decide
theorem test_decode_rdSeed : decode (.bus 0b10_0_00010100#11 0#32) = .ok .rdSeed := by decide
theorem test_decode_wrSeed : decode (.bus 0b10_1_00010100#11 7#32) = .ok (.wrSeed 7#32) := by decide
theorem test_decode_rdSum : decode (.bus 0b10_0_00011000#11 0#32) = .ok .rdSum := by decide
theorem test_decode_wrSum : decode (.bus 0b10_1_00011000#11 7#32) = .ok (.wrSum 7#32) := by decide
theorem test_decode_rdCursor : decode (.bus 0b10_0_00011100#11 0#32) = .ok .rdCursor := by decide
theorem test_decode_wrCursor : decode (.bus 0b10_1_00011100#11 7#32) = .ok (.wrCursor 7#32) := by decide
theorem test_decode_rdBandLo : decode (.bus 0b10_0_00100000#11 0#32) = .ok .rdBandLo := by decide
theorem test_decode_wrBandLo : decode (.bus 0b10_1_00100000#11 7#32) = .ok (.wrBandLo 7#32) := by decide
theorem test_decode_rdBandHi : decode (.bus 0b10_0_00100100#11 0#32) = .ok .rdBandHi := by decide
theorem test_decode_wrBandHi : decode (.bus 0b10_1_00100100#11 7#32) = .ok (.wrBandHi 7#32) := by decide
theorem test_decode_rdLasts : decode (.bus 0b10_0_00101000#11 0#32) = .ok .rdLasts := by decide
theorem test_decode_wrLasts : decode (.bus 0b10_1_00101000#11 7#32) = .ok (.wrLasts 7#32) := by decide
theorem test_decode_rdRejcnt : decode (.bus 0b10_0_00101100#11 0#32) = .ok .rdRejcnt := by decide
theorem test_decode_wrRejcnt : decode (.bus 0b10_1_00101100#11 7#32) = .ok (.wrRejcnt 7#32) := by decide
theorem test_decode_rdOut : decode (.bus 0b10_0_010_101_00#11 0#32) = .ok (.rdOut 5#3) := by decide
theorem test_decode_wrOut : decode (.bus 0b10_1_010_001_00#11 7#32) = .ok (.wrOut 1#3 7#32) := by decide
theorem test_decode_rdWin : decode (.bus 0b10_0_1_10110_00#11 0#32) = .ok (.rdWin 22#5) := by decide
theorem test_decode_wrWin : decode (.bus 0b10_1_1_00001_00#11 7#32) = .ok (.wrWin 1#5 7#32) := by decide

/-- ER-6 to ER-10: the checks in the order SIZE, alignment, mapping (R87). -/
theorem test_decode_errors :
    [0x004#11, 0x308#11, 0x406#11, 0x430#11, 0x460#11, 0x47C#11, 0x530#11, 0x604#11].map
      (fun a => match decode (.bus a 0#32) with | .ok _ => none | .error e => some e) =
    [some .badSize, some .badSize, some .misaligned, some .unmapped, some .unmapped, some .unmapped,
      some .unmapped, some .badSize] := by decide

/-- The numbering of the opcode table: a descriptor and its data word from bit 16 up; a command. -/
theorem test_table_words :
    decodeTableWord 16 (0x520 + 0x3B6 * 65536) = some (.wrBandLo 0x3B6#32) ∧
    decodeTableWord 16 0x484 = some (.rdWin 1#5) ∧ decodeTableWord 32 5 = some .getWord ∧
    decodeTableWord 32 8 = none ∧ decodeTableWord 16 0x430 = none := by decide

/-! Single steps, from the vectors of 95_test_vectors.md -/

/-- CB-1: a tie gives 1. -/
theorem test_cb1 :
    after (takeEvent (.seq 100#12) (running plain .xbit 2 100 5 50 150))
      (fun t => (t.b.result, windowSlot t.b.win 5, t.b.sum, t.b.cursor, t.b.doneIf)) =
    some (1#32, 100#12, 3200#17, 6#5, true) := by decide

/-- CB-4: the cursor wraps from 31 to 0. -/
theorem test_cb4 :
    after (takeEvent (.seq 90#12) (running plain .xbit 2 100 31 50 150))
      (fun t => (t.b.result, windowSlot t.b.win 31, t.b.sum, t.b.cursor)) =
    some (1#32, 90#12, 3190#17, 0#5) := by decide

/-- CB-5: the largest SUM. -/
theorem test_cb5 :
    after (takeEvent (.seq 4095#12) (running plain .xbit 2 4095 0 0 4095))
      (fun t => (t.b.result, t.b.sum)) = some (1#32, 131040#17) := by decide

/-- CB-10: REJCNT saturates. -/
theorem test_cb10 :
    after (takeEvent (.seq 10#12)
      (start plain fun b => { uniform 100 0 50 150 b with state := .xbit, op := 2, rejcnt := 0xFFFFFFFF }))
      (fun t => t.b.rejcnt) = some 0xFFFFFFFF#32 := by decide

/-- CB-9's last rejection: the abort at P_RETRY_LIMIT = 3. -/
theorem test_cb9 :
    after (takeEvent (.seq 10#12)
      (start (params .none .clearThenStart (some 3)) fun b =>
        { uniform 100 0 50 150 b with state := .xbit, op := 2, retry := 2, rejcnt := 2 }))
      (fun t => (statusValue t.b, intstsValue t.b, t.b.rejcnt)) = some (0x402#32, 2#32, 3#32) := by
  decide

/-- AG-2's last draw: the new bit enters at bit 0. -/
theorem test_ag2 :
    after (takeEvent (.seq 101#12)
      (start plain fun b => { uniform 100 2 50 150 b with state := .xword, op := 3, sr := 3, bitcnt := 2 }))
      (fun t => (t.b.sr, t.b.bitcnt, statusValue t.b)) = some (6#32, 3#6, 0x00040003#32) := by decide

/-- VN-2's second draw: the pair (1, 0) gives 1. -/
theorem test_vn2 :
    after (takeEvent (.seq 101#12)
      (start (params .vn .clearThenStart none) fun b =>
        { uniform 100 1 50 150 b with state := .xbit, op := 2, vnen := true, vnph := true, vnb1 := true }))
      (fun t => (t.b.result, t.b.sum, t.b.cursor, t.b.vnph)) = some (1#32, 3201#17, 2#5, false) := by
  decide

/-- VN-4: the enables of absent units are hardwired 0; with both present all six bits hold. -/
theorem test_vn4 :
    after (exec (.wrCtrl 0x3F#32) (start plain id)) (fun t => ctrlValue t.par t.b) = some 0x0F#32 ∧
    after (exec (.wrCtrl 0x3F#32) (start (params .vnRct .clearThenStart none) id))
      (fun t => ctrlValue t.par t.b) = some 0x3F#32 := by decide

/-- RCT-1's third sample: the count reaches the cutoff. -/
theorem test_rct1 :
    after (takeEvent (.seq 100#12)
      (start (params .rct .clearThenStart none) fun b =>
        { uniform 100 2 50 150 b with
          state := .xbit, op := 2, rcten := true, rctCnt := 2, rctLast := 100 }))
      (fun t => (t.b.rctCnt, t.b.rctLast, t.b.hlthIf)) = some (3#16, 100#12, true) := by decide

/-- IN-5: EXTRACT_BIT after reset. -/
theorem test_in5 :
    after (exec .extractBit (start plain id)) (fun t => (statusValue t.b, intstsValue t.b)) =
    some (0x300#32, 2#32) := by decide

/-- HV-6: HARVEST in H_WAIT. -/
theorem test_hv6 :
    after (exec .harvest
      (start plain fun b =>
        { uniform 100 0 50 150 b with state := .hWait, op := 4, accIe := true, accClkEn := true }))
      (fun t => (statusValue t.b, intstsValue t.b)) = some (0x0009021B#32, 2#32) := by decide

/-- RA-2: write-one-to-clear. -/
theorem test_ra2 :
    after (exec (.wrIntsts 1#32) (start plain fun b => { b with doneIf := true, aesIf := true }))
      (fun t => intstsValue t.b) = some 8#32 := by decide

/-- RA-4: the band registers take bits [11:0]. -/
theorem test_ra4 :
    after (exec (.wrBandLo 0x13E8#32) (start plain id)) (fun t => t.b.bandLo) = some 0x3E8#12 := by decide

/-- RA-5: the band's reset values for P_BAND_CENTER = 1500; and their clamps at both ends. -/
theorem test_ra5 :
    [1500#12, 20#12, 4090#12].map
      (fun c => ((Bcsh.reset { plain with bandCenter := c }).bandLo,
        (Bcsh.reset { plain with bandCenter := c }).bandHi)) =
    [(0x5AA#12, 0x60E#12), (0#12, 70#12), (4040#12, 4095#12)] := by decide

/-- ER-3, ER-4, ER-5: ILLEGAL before BUSY before NOT_INIT; NOP never errs. -/
theorem test_er3_er4_er5 :
    [7#32, 2#32, 0#32].map
      (fun w => after (exec (.wrCmd w) (start plain fun b => { b with state := .xbit, op := 2 }))
        (fun t => (t.b.errCode, t.b.errIf))) =
    [some (1#4, true), some (2#4, true), some (0#4, false)] := by decide

/-- PL-1: poll of length 0. -/
theorem test_pl1 :
    after (takeEvent (.call (.poll 0 0)) (start plain id))
      (fun t => (t.sw.actualLen, t.sw.success, t.resp, decide (t.b = (start plain id).b))) =
    some (0, true, .idle, true) := by decide

/-- A word placed by `withFetchWord` runs at the very next step. -/
theorem test_fetch :
    after (step ((start plain id).withFetchWord 32 1)) (fun t => (t.b.state, t.b.op)) =
    some (.initFill, 1#3) := by decide

/-! Witnesses: what the statements assume can be met -/

theorem witness_EncodingADecodedWordGivesItBack :
    decode (.cmd 5#32) = .ok .getWord ∧ decode (.bus 0x5FC#11 9#32) = .ok (.wrWin 31#5 9#32) ∧
    decode (.bus 0x4FC#11 9#32) = .ok (.rdWin 31#5) := by decide

/-- Each reason for a bus error, at the ends of the holes; and the four neighbours of the holes. -/
theorem witness_InadmissibleAccess :
    [0x200#11, 0x602#11, 0x403#11, 0x430#11, 0x43C#11, 0x460#11, 0x47C#11, 0x42C#11, 0x440#11,
      0x45C#11, 0x480#11].map
      (fun a => after (takeEvent (.host (.bus a 0#32)) (start plain id))
        (fun t => decide (t.resp = .busError))) =
    [some true, some true, some true, some true, some true, some true, some true, some false,
      some false, some false, some false] := by decide

/-- The addresses just outside and just inside both ends of the aperture. -/
theorem witness_AccessByAddress :
    plain.base.toNat % 256 = 0 ∧
    [0x3FFFFFFC#32, 0x40000000#32, 0x400000FC#32, 0x40000100#32].map
      (fun a => after (takeEvent (.mem ⟨a, 2#2, false, 0#32⟩) (start plain id)) (fun t => t.resp)) =
    [some .outside, some (.data 0#32), some (.data 0#32), some .outside] := by decide

theorem witness_StepRunsTheDecodedInstruction :
    { start plain id with inbox := [.host (.cmd 4#32), .disp] }.inbox = .host (.cmd 4#32) :: [.disp] ∧
    decode (.cmd 4#32) = .ok .harvest ∧ (start plain id).inbox = [] ∧
    decodeTableWord 16 0x404 = some .rdStatus := by decide

theorem witness_IllegalCommandWord : 6 ≤ (6#32).toNat ∧ 6 ≤ (0xFFFFFFFF#32).toNat := by decide

theorem witness_CommandWhileBusy :
    (running plain .hWait 4 100 0 50 150).b.state ≠ .idle ∧
    Instr.wrCmd 5#32 ∈ [Instr.init, .extractBit, .extractWord, .harvest, .getWord, .wrCmd 1#32,
      .wrCmd 2#32, .wrCmd 3#32, .wrCmd 4#32, .wrCmd 5#32] := by decide

/-- Also for INIT's start: IDLE and not initialized. -/
theorem witness_ExtractAndHarvestBeforeInit_InitStartsTheFill :
    (start plain id).b.state = .idle ∧ (start plain id).b.initDone = false ∧
    Instr.harvest ∈ [Instr.extractBit, .extractWord, .harvest, .wrCmd 2#32, .wrCmd 3#32, .wrCmd 4#32] ∧
    Instr.wrCmd 1#32 ∈ [Instr.init, .wrCmd 1#32] := by decide

/-- An INIT after an abort that left RETRY at 9 touches nothing but DONEIF and ERR_CODE (42_init.md
R150). -/
theorem test_init_again :
    after (exec .init (start plain fun b => { uniform 100 0 50 150 b with retry := 9, errCode := 4 }))
      (fun t => (t.b.errCode, t.b.doneIf, t.b.state, t.b.retry)) = some (0, true, .idle, 9) := by decide

theorem witness_InitAgain :
    (running plain .idle 0 100 0 50 150).b.state = .idle ∧
    (running plain .idle 0 100 0 50 150).b.initDone = true ∧
    (running plain .idle 0 100 0 50 150).b.opAgrees ∧
    (running plain .idle 0 100 0 50 150).b.wordAgrees ∧
    (running plain .idle 0 100 0 50 150).condAgrees :=
  ⟨rfl, rfl, rfl, ⟨rfl, rfl, rfl⟩,
    ⟨fun _ => ⟨rfl, rfl, rfl⟩, fun _ => ⟨rfl, rfl, rfl⟩, fun _ => rfl, Nat.zero_le 4⟩⟩

/-- INIT_DONE = 1 for the extracts, the harvest and GET_WORD's first case; 0 for its second. -/
theorem witness_Acceptance :
    (running plain .idle 0 100 0 50 150).b.state = .idle ∧
    (running plain .idle 0 100 0 50 150).b.initDone = true ∧
    (start plain id).b.state = .idle ∧ (start plain id).b.initDone = false ∧
    Instr.getWord ∈ [Instr.getWord, .wrCmd 5#32] := by decide

theorem witness_WrCmdDoesWhatItsCommandDoes : decode (.cmd 3#32) = .ok .extractWord := by decide

theorem witness_ReadOnlyRegistersIgnoreWrites :
    Instr.wrWin 31#5 1#32 ∈ [Instr.wrStatus 1#32, .wrResult 1#32, .wrSeed 1#32, .wrSum 1#32,
      .wrCursor 1#32, .wrLasts 1#32, .wrRejcnt 1#32, .wrOut 7#3 1#32, .wrWin 31#5 1#32] := by decide

/-- Events that are neither SEQ's nor the reset and have a next state: a HOST access and one of each
other agent, for the statements about every event. -/
theorem witness_Events :
    [Event.host (.cmd 3#32), .disp, .accDone (Vector.replicate 8 1#32), .accAesDone, .accAesIe true,
      .call .getWord, .program].all
      (fun e => (after (takeEvent e (running plain .idle 0 100 0 50 150)) (fun _ => ())).isSome) = true :=
  by decide

/-- Just below and just above the band, without a bound and one short of a bound. -/
theorem witness_OutOfBandSampleOnlyCounts :
    (running plain .xbit 2 1000 0 950 1050).adcConfigured = true ∧
    SeqState.xbit ∈ [SeqState.initDiscard, .xbit, .xword, .hSeed] ∧
    (949#12).toNat < (running plain .xbit 2 1000 0 950 1050).b.bandLo.toNat ∧
    (running plain .xbit 2 1000 0 950 1050).b.bandHi.toNat < (1051#12).toNat ∧
    plain.retryLimit = none ∧ (params .none .clearThenStart (some 2)).retryLimit = some 2 ∧
    min ((running plain .xbit 2 1000 0 950 1050).b.retry.toNat + 1) 0xFFFFFFFF < 2 := by decide

theorem witness_RetryLimitAbortsTheCommand :
    (running (params .none .clearThenStart (some 1)) .hSeed 4 1000 0 950 1050).par.retryLimit = some 1 ∧
    (running (params .none .clearThenStart (some 1)) .hSeed 4 1000 0 950 1050).adcConfigured = true ∧
    (running (params .none .clearThenStart (some 1)) .hSeed 4 1000 0 950 1050).b.state ∈
      [SeqState.initDiscard, .xbit, .xword, .hSeed] ∧
    (949#12).toNat <
      (running (params .none .clearThenStart (some 1)) .hSeed 4 1000 0 950 1050).b.bandLo.toNat ∧
    1 ≤ min ((running (params .none .clearThenStart (some 1)) .hSeed 4 1000 0 950 1050).b.retry.toNat
      + 1) 0xFFFFFFFF := by decide

/-- Both ends of the band, and both ways to have no conditioner at work. -/
theorem witness_ExtractBitComparesAndInserts :
    (running plain .xbit 2 1000 31 950 1050).adcConfigured = true ∧
    (running plain .xbit 2 1000 31 950 1050).b.state = .xbit ∧
    (running plain .xbit 2 1000 31 950 1050).b.bandLo.toNat ≤ (950#12).toNat ∧
    (1050#12).toNat ≤ (running plain .xbit 2 1000 31 950 1050).b.bandHi.toNat ∧
    plain.cond = .none ∧
    (running (params .vnRct .clearThenStart none) .xbit 2 1000 31 950 1050).b.vnen = false ∧
    (running (params .vnRct .clearThenStart none) .xbit 2 1000 31 950 1050).b.vnph = false ∧
    (running (params .vnRct .clearThenStart none) .xbit 2 1000 31 950 1050).b.rcten = false ∧
    (running plain .xbit 2 1000 31 950 1050).b.sum.toNat =
      windowSum (running plain .xbit 2 1000 31 950 1050).b.win := by decide

/-- What a draw of 100 (bit 1) or 101 (bit 0) does with the conditioner `c` in the state `st`, the
average being 100: STATE, VNPH, BITCNT, SR and RESULT after it. -/
def conditioned (c : CondUnits) (st : SeqState) (op : BitVec 3) (n : BitVec 6) (ph en b1 : Bool)
    (d : Sample) : Option (SeqState × Bool × BitVec 6 × Word × Word) :=
  after (takeEvent (.seq d) (start (params c .clearThenStart none) fun b =>
      { uniform 100 0 50 150 b with
        state := st, op := op, bitcnt := n, vnph := ph, vnen := en, vnb1 := b1 }))
    (fun t => (t.b.state, t.b.vnph, t.b.bitcnt, t.b.sr, t.b.result))

/-- A pair opened, and closed by an equal bit. -/
theorem witness_VonNeumannPairsDropOrDeliver_drop :
    conditioned .vn .xbit 2 0 false true false 100 = some (.xbit, true, 0, 0, 0) ∧
    conditioned .vnRct .hSeed 4 31 true true true 100 = some (.hSeed, false, 31, 0, 0) := by decide

/-- A bit delivered by an unequal pair, in every state, before the 32nd bit of a word and at it. -/
theorem witness_VonNeumannPairsDropOrDeliver_deliver :
    [conditioned .vn .xbit 2 0 true false true 101, conditioned .vn .xword 3 30 true true true 101,
      conditioned .vn .xword 3 31 true true true 101, conditioned .vn .hSeed 4 31 true true true 101,
      conditioned .vn .initDiscard 1 31 true true true 101,
      conditioned .vn .initDiscard 5 31 true true true 101] =
    [some (.idle, false, 0, 0, 1), some (.xword, false, 31, 1, 0), some (.idle, false, 0, 0, 1),
      some (.hStart, false, 0, 1, 0), some (.idle, false, 0, 0, 0), some (.hArm, false, 0, 0, 0)] := by
  decide

/-- A bit passed through by a disabled extractor, and where there is none. -/
theorem witness_VonNeumannPairsDropOrDeliver_pass :
    conditioned .vn .xword 3 0 false false false 100 = some (.xword, false, 1, 1, 0) ∧
    conditioned .rct .xbit 2 0 false false false 100 = some (.idle, false, 0, 0, 1) := by decide

/-- Observed; not observed for want of the enable, out of band, and in the fill. -/
theorem witness_RepetitionCountFollowsAcceptedSamples :
    [(SeqState.xbit, true, 150#12), (.xbit, false, 150#12), (.xbit, true, 151#12),
      (.initFill, true, 100#12)].map
      (fun x => after (takeEvent (.seq x.2.2)
        (start (params .rct .clearThenStart none) fun b =>
          { uniform 100 0 50 150 b with state := x.1, rcten := x.2.1 }))
        (fun t => (t.b.rctCnt, t.b.rctLast))) =
    [some (1#16, 150#12), some (0#16, 0#12), some (0#16, 0#12), some (0#16, 0#12)] := by decide

/-- A draw, 31 more that end the word, and the next EXTRACT_WORD: 32 accepted samples. -/
def evicting : List Event := .seq 7 :: (List.replicate 31 (.seq 5) ++ [.host (.cmd 3#32)])

/-- The bound 32, which brings the cursor back to a slot about to be evicted; and a run with one
accepted sample, a rejected one and another agent's event, which does not. -/
theorem witness_EvictionIsFirstInFirstOut :
    (running plain .xword 3 100 3 0 4095).adcConfigured = true ∧
    (running plain .xword 3 100 3 0 4095).b.initDone = true ∧
    (running plain .xword 3 100 3 0 4095).accepts (.seq 7) = true ∧ Event.reset ∉ evicting ∧
    acceptedSamples evicting (running plain .xword 3 100 3 0 4095) = 32 ∧
    after (takeEvents evicting (running plain .xword 3 100 3 0 4095))
      (fun t => (t.b.cursor, t.accepts (.seq 9))) = some (3, true) ∧
    acceptedSamples [.seq 7, .disp, .seq 9] (running plain .xword 3 5 3 0 8) = 1 ∧
    after (takeEvents [.seq 7, .disp, .seq 9] (running plain .xword 3 5 3 0 8))
      (fun t => t.b.cursor) = some 4 := by decide

theorem witness_EmptyBandNeverCompletes :
    (running plain .xbit 2 100 0 10 9).adcConfigured = true ∧
    (running plain .xbit 2 100 0 10 9).b.state ∈ [SeqState.initDiscard, .xbit, .xword, .hSeed] ∧
    (running plain .xbit 2 100 0 10 9).b.bandHi.toNat < (running plain .xbit 2 100 0 10 9).b.bandLo.toNat ∧
    (running plain .xbit 2 100 0 10 9).par.retryLimit = none := by decide

/-- A harvest that waits, its completion coming, and an inbox event that is taken. -/
def waiting : State :=
  { running plain .hWait 4 100 0 50 150 with
    b := { (running plain .hWait 4 100 0 50 150).b with accIe := true, accClkEn := true }
    acc := { idleAcc with busy := true, start := some ⟨1, 1, true⟩ }
    inbox := [.accDone (Vector.replicate 8 1#32)] }

/-- The invariants hold in it together, and its step has a next state. -/
theorem witness_Invariants :
    waiting.b.sum.toNat = windowSum waiting.b.win ∧ waiting.b.opAgrees ∧ waiting.b.wordAgrees ∧
    waiting.b.accIeAgrees ∧ waiting.condAgrees ∧ waiting.completionAhead ∧
    waiting.par.clearOrder = .clearThenStart ∧ waiting.sw.mem.wf = true ∧
    (after (step waiting) (fun t => t.acc.prngIf)) = some true :=
  ⟨by decide, ⟨.inl rfl, rfl⟩, ⟨rfl, rfl, rfl⟩, ⟨rfl, rfl⟩,
    ⟨fun _ => ⟨rfl, rfl, rfl⟩, fun _ => ⟨rfl, rfl, rfl⟩, fun _ => rfl, Nat.zero_le 4⟩,
    fun _ => ⟨by decide, fun _ => .inl rfl, by decide⟩, rfl, rfl, by decide⟩

theorem witness_FillPlacesTheSamplesInOrder :
    (start plain fun b => { b with state := .initFill, op := 1 }).adcConfigured = true ∧
    (start plain fun b => { b with state := .initFill, op := 1 }).b.state = .initFill ∧
    (start plain fun b => { b with state := .initFill, op := 1 }).b.fillIdx = 0 ∧
    (start plain id).b.sum.toNat = windowSum (start plain id).b.win ∧
    (List.replicate 32 1000#12).length = 32 := ⟨rfl, rfl, rfl, by decide, rfl⟩

/-- The parameters with both conditioner units, START_THEN_CLEAR and PRNG_FN. -/
def full : Params := { params .vnRct .startThenClear none with prngFnGiven := true }

/-- INIT and GET_WORD; no conditioner, and one that is disabled. -/
theorem witness_InitRunsToCompletion :
    (start plain id).adcConfigured = true ∧ (start plain id).par.cond = .none ∧
    (start full id).par.cond = .vnRct ∧ (start full id).b.vnen = false ∧
    (start full id).b.state = .idle ∧ (start full id).b.initDone = false ∧
    (start full id).b.sum.toNat = windowSum (start full id).b.win ∧
    ((1 : Word) = 1 ∨ (1 : Word) = 5) ∧ ((5 : Word) = 1 ∨ (5 : Word) = 5) ∧
    (List.replicate 32 1000#12).length = 32 ∧
    (∀ d ∈ List.replicate 32 1000#12, (start full id).b.bandLo.toNat ≤ d.toNat ∧
      d.toNat ≤ (start full id).b.bandHi.toNat) :=
  ⟨rfl, rfl, rfl, rfl, rfl, rfl, by decide, .inl rfl, .inr rfl, rfl,
    fun d hd => by rw [List.eq_of_mem_replicate hd]; decide⟩

/-- No conditioner with CURSOR 0; both units with the extractor disabled and CURSOR 31. -/
theorem witness_ExtractWordAssemblesTheBits :
    (running plain .xword 3 1000 0 950 1050).par.cond = .none ∧
    (running full .xword 3 1000 31 950 1050).adcConfigured = true ∧
    (running full .xword 3 1000 31 950 1050).b.vnph = false ∧
    (running full .xword 3 1000 31 950 1050).b.vnen = false ∧
    (running full .xword 3 1000 31 950 1050).b.state = .xword ∧
    (running full .xword 3 1000 31 950 1050).b.sr = 0 ∧
    (running full .xword 3 1000 31 950 1050).b.bitcnt = 0 ∧
    (running full .xword 3 1000 31 950 1050).b.sum.toNat =
      windowSum (running full .xword 3 1000 31 950 1050).b.win ∧
    (List.replicate 32 950#12).length = 32 ∧
    (∀ d ∈ List.replicate 32 950#12,
      (running full .xword 3 1000 31 950 1050).b.bandLo.toNat ≤ d.toNat ∧
      d.toNat ≤ (running full .xword 3 1000 31 950 1050).b.bandHi.toNat) :=
  ⟨rfl, rfl, rfl, rfl, rfl, rfl, rfl, by decide, rfl,
    fun d hd => by rw [List.eq_of_mem_replicate hd]; decide⟩

/-- Both clear orders, PRNG_FN given and not, GET_WORD and HARVEST, CURSOR 0 and 31. -/
theorem witness_HarvestDeliversTheBlock :
    (running plain .hArm 5 1000 0 950 1050).par.cond = .none ∧
    (running plain .hArm 5 1000 0 950 1050).par.clearOrder = .clearThenStart ∧
    (running plain .hArm 5 1000 0 950 1050).par.prngFnGiven = false ∧
    (running full .hArm 4 1000 31 950 1050).par.clearOrder = .startThenClear ∧
    (running full .hArm 4 1000 31 950 1050).par.prngFnGiven = true ∧
    (running full .hArm 4 1000 31 950 1050).adcConfigured = true ∧
    (running full .hArm 4 1000 31 950 1050).b.vnph = false ∧
    (running full .hArm 4 1000 31 950 1050).b.vnen = false ∧
    (running full .hArm 4 1000 31 950 1050).b.state = .hArm ∧
    (running full .hArm 4 1000 31 950 1050).b.sum.toNat =
      windowSum (running full .hArm 4 1000 31 950 1050).b.win ∧
    (running full .hArm 4 1000 31 950 1050).acc.busy = false ∧
    (List.replicate 32 1050#12).length = 32 ∧
    (∀ d ∈ List.replicate 32 1050#12,
      (running full .hArm 4 1000 31 950 1050).b.bandLo.toNat ≤ d.toNat ∧
      d.toNat ≤ (running full .hArm 4 1000 31 950 1050).b.bandHi.toNat) :=
  ⟨rfl, rfl, rfl, rfl, rfl, rfl, rfl, rfl, rfl, by decide, rfl, rfl,
    fun d hd => by rw [List.eq_of_mem_replicate hd]; decide⟩

/-- Each state of the harvest, and H_WAIT with the flag 1 and 0. -/
theorem witness_ArmClearWait_Read :
    (running plain .hArm 4 100 0 50 150).b.state = .hArm ∧
    (running plain .hClear 4 100 0 50 150).b.state = .hClear ∧
    (running plain .hRead 5 100 0 50 150).b.state = .hRead ∧
    (start plain fun b => { b with state := .hWait, prngDone := true }).b.state = .hWait ∧
    (start plain fun b => { b with state := .hWait, prngDone := true }).b.prngDone = true ∧
    waiting.b.state = .hWait ∧ waiting.b.prngDone = false := by decide

/-- H_START under each order, and with the accelerator busy. -/
theorem witness_StartSendsTheSeed :
    (running plain .hStart 4 100 0 50 150).b.state = .hStart ∧
    (running plain .hStart 4 100 0 50 150).acc.busy = false ∧ plain.clearOrder = .clearThenStart ∧
    (params .none .startThenClear none).clearOrder = .startThenClear ∧
    { running plain .hStart 4 100 0 50 150 with acc := waiting.acc }.acc.busy = true := by decide

/-- An AES completion while the harvest waits: an event that is taken and does not end the wait. -/
theorem witness_OnlyTheRightCompletionEndsTheWait :
    waiting.b.state = .hWait ∧ waiting.b.prngDone = false ∧
    after (takeEvent .disp { waiting with acc := { waiting.acc with aesIf := true, aesIe := true } })
      (fun t => (t.b.state, t.b.prngDone, t.b.aesIf)) = some (.hWait, false, true) := by decide

theorem witness_AcceleratorCompletes :
    waiting.acc.busy = true ∧ waiting.par.prngFnGiven = false ∧
    { waiting with par := { plain with prngFnGiven := true } }.par.prngFnGiven = true ∧
    waiting.acc.start = some ⟨1, 1, true⟩ ∧ (start plain id).acc.busy = false := by decide

/-- H_START under START_THEN_CLEAR, as H_ARM leaves ACC_IE. -/
def losing : State :=
  start (params .none .startThenClear none) fun b =>
    { uniform 100 0 50 150 b with state := .hStart, op := 4, accIe := true, accClkEn := true }

theorem witness_CompletionIsLost :
    losing.par.clearOrder = .startThenClear ∧ losing.b.state = .hStart ∧ losing.b.accIe = true ∧
    losing.acc.busy = false := by decide

theorem witness_OnlyResetEndsAHang :
    { waiting with acc := idleAcc }.hung ∧
    (after (takeEvent .disp { waiting with acc := idleAcc }) (fun t => t.b.state)) = some .hWait ∧
    (after (takeEvent .reset { waiting with acc := idleAcc }) (fun t => t.b.state)) = some .idle :=
  ⟨⟨rfl, rfl, rfl, rfl⟩, by decide, by decide⟩

/-- A listed HOST access is a line still to come (70_reset_and_hazards.md R284). -/
theorem test_run_not_over : ¬ { start plain id with inbox := [.host (.cmd 1#32)] }.runOver :=
  fun h => Bool.noConfusion (h.1.2.1 (.host (.cmd 1#32)) (List.mem_cons_self ..))

/-- DISP sets the flag; H_START clears it. -/
theorem witness_PrngDone :
    after (takeEvent .disp { waiting with acc := { waiting.acc with prngIf := true } })
      (fun t => (waiting.b.prngDone, t.b.prngDone)) = some (false, true) ∧
    after (takeEvent (.seq 0) (start plain fun b => { b with state := .hStart, prngDone := true }))
      (fun t => t.b.prngDone) = some false := by decide

/-- OUT changes in H_READ; RESULT changes where EXTRACT_BIT ends. -/
theorem witness_OutAndResult :
    after (takeEvent (.seq 0) { running plain .hRead 4 100 0 50 150 with
      acc := { idleAcc with out := Vector.replicate 8 9#32 } })
      (fun t => decide (t.b.out ≠ (running plain .hRead 4 100 0 50 150).b.out)) = some true ∧
    after (takeEvent (.seq 100) (running plain .xbit 2 100 0 50 150))
      (fun t => decide (t.b.result ≠ (running plain .xbit 2 100 0 50 150).b.result)) = some true := by
  decide

/-- Flags that are 1, and an access that clears each. -/
theorem witness_StickyState :
    after (exec (.wrIntsts 0xF#32) (start plain fun b =>
      { b with
        doneIf := true, errIf := true, hlthIf := true, aesIf := true, initDone := true
        accClkEn := true }))
      (fun t => (intstsValue t.b, t.b.initDone, t.b.accClkEn)) = some (0#32, true, true) := by decide

theorem witness_PollOfZeroBytes : (start plain id).sw.pc = .idle := by decide

/-- A poll about to read OUTk of a block at `off`. -/
def polling (len off : Nat) (k : BitVec 3) : State :=
  { start plain id with
    sw := { HostSw.launch with pc := .pollRead, dest := 64, len := len, off := off, k := k } }

/-- The first word and the last of a whole block, with more to come and without. -/
theorem witness_PollCopiesAWholeBlock :
    (polling 37 0 0).sw.pc = .pollRead ∧ (polling 37 0 0).sw.off + 32 ≤ (polling 37 0 0).sw.len ∧
    (polling 37 0 0).sw.k.toNat < 7 ∧ (polling 37 0 6).sw.k.toNat < 7 ∧
    (polling 37 0 7).sw.k.toNat = 7 ∧ (polling 33 0 7).sw.off + 32 < (polling 33 0 7).sw.len ∧
    (polling 32 0 7).sw.off + 32 = (polling 32 0 7).sw.len := by decide

/-- One remaining byte, and 31; the first word, the seventh and the last. -/
theorem witness_PollCopiesOnlyTheRemainder :
    (polling 33 32 0).sw.pc = .pollRead ∧ (polling 33 32 0).sw.off < (polling 33 32 0).sw.len ∧
    (polling 63 32 0).sw.len < (polling 63 32 0).sw.off + 32 ∧
    (polling 33 32 0).sw.k.toNat < 7 ∧ (polling 63 32 6).sw.k.toNat < 7 ∧ (polling 33 32 7).sw.k = 7 ∧
    after (takeEvent .program (polling 33 32 6)) (fun t => (t.sw.mem, t.sw.pc, t.sw.k)) =
      some ([], .pollRead, 7) ∧
    after (takeEvent .program (polling 33 32 7)) (fun t => (t.sw.mem, t.sw.pc, t.sw.actualLen)) =
      some ([(96, 0#8)], .idle, 33) := by decide

end Sys2Proof.Tests
end

section
/-! Which event a step takes, and which instruction a raw HOST word runs. -/

namespace Sys2Proof.Machine

/-- The oldest listed event is taken and is listed no more. -/
theorem step_of_inbox_cons {s : State} {e : Event} {rest : List Event} (h : s.inbox = e :: rest) :
    step s = takeEvent e { s with inbox := rest } := by
  simp only [step, h]

/-- With no event listed, the free schedule supplies it (entry 1). -/
theorem step_of_inbox_nil {s : State} (h : s.inbox = []) :
    step s = takeEvent (Config.schedule s.tick) { s with tick := s.tick + 1 } := by
  simp only [step, h]

/-- A raw HOST word that selects a row runs that row's instruction (30_encoding.md R80). -/
theorem takeEvent_host_of_decode_ok {w : HostWord} {i : Instr} (hw : decode w = .ok i) (s : State) :
    takeEvent (.host w) s = exec i s := by
  simp only [takeEvent, hostStep, hw]

/-- A word of the opcode table decodes as the HOST word it numbers does. -/
theorem decodeTableWord_eq_some_iff {nbits w : Nat} {i : Instr} :
    decodeTableWord nbits w = some i ↔ ∃ h, tableHostWord nbits w = some h ∧ decode h = .ok i := by
  unfold decodeTableWord
  cases tableHostWord nbits w with
  | none => simp
  | some h => cases hd : decode h <;> simp [hd]

theorem withFetchWord_of_tableHostWord {nbits w : Nat} {h : HostWord}
    (hw : tableHostWord nbits w = some h) (s : State) :
    s.withFetchWord nbits w = { s with inbox := .host h :: s.inbox } := by
  simp only [State.withFetchWord, hw]

/-- A step with a decodable HOST word listed first runs its instruction with that word gone. -/
theorem step_of_decode_ok {s : State} {w : HostWord} {i : Instr} {rest : List Event}
    (hs : s.inbox = .host w :: rest) (hw : decode w = .ok i) :
    step s = exec i { s with inbox := rest } :=
  (step_of_inbox_cons hs).trans (takeEvent_host_of_decode_ok hw _)

/-- A decodable word put in front of the listed events runs next, and taking it gives back the state
it was put into (entry 2). -/
theorem step_withFetchWord {nbits w : Nat} {i : Instr} (hi : decodeTableWord nbits w = some i)
    (s : State) : step (s.withFetchWord nbits w) = exec i s := by
  obtain ⟨h, hword, hdecode⟩ := decodeTableWord_eq_some_iff.mp hi
  rw [withFetchWord_of_tableHostWord hword]
  exact step_of_decode_ok rfl hdecode

/-- Settles O7: a listed event, a listed HOST word, an empty list, and a word placed by
`withFetchWord`, each by its own lemma. -/
theorem stepRunsTheDecodedInstruction : Obligations.StepRunsTheDecodedInstruction :=
  ⟨fun _ _ _ hs => step_of_inbox_cons hs,
    fun _ _ _ _ hs hw => step_of_decode_ok hs hw,
    fun _ hs => step_of_inbox_nil hs,
    fun s _ _ _ hi => step_withFetchWord hi s⟩

end Sys2Proof.Machine
end

section
/-! What an event of any agent can do to BCSH, and how an invariant of BCSH passes from the single
effects to a step. -/

namespace Sys2Proof.Machine

/-- What one event does to BCSH: a HOST access, SEQ's step, one source served by DISP, the reset, or
nothing (the accelerator, a HOST call, DISP with no interrupt pending). -/
inductive EventEffect (p : Params) (b : Bcsh) : Event → Bcsh → Prop where
  | none {e : Event} : EventEffect p b e b
  | access {e : Event} {c : Bcsh} (h : AccessEffect p b c) : EventEffect p b e c
  | seq {accOut : Block} {d : Sample} {c : Bcsh} (h : SeqEffect p accOut d b c) :
      EventEffect p b (.seq d) c
  | prngServed : EventEffect p b .disp { b with prngDone := true }
  | aesServed : EventEffect p b .disp { b with aesIf := true }
  | reset : EventEffect p b .reset (Bcsh.reset p)

theorem dispStep_eventEffect (s : State) : EventEffect s.par s.b .disp (dispStep s).b := by
  rcases dispStep_cases s with ⟨-, hd⟩ | ⟨-, -, hd⟩ | ⟨-, hd⟩ <;> rw [hd]
  · exact .prngServed
  · exact .aesServed
  · exact .none

/-- Every event that is taken has one of these effects on BCSH. -/
theorem takeEvent_eventEffect {e : Event} {s t : State} (h : takeEvent e s = .next t) :
    EventEffect s.par s.b e t.b := by
  rcases takeEvent_cases h with
    ⟨u, sw, ⟨hu, -⟩, rfl, -⟩ | ⟨d, rfl, hseq⟩ | ⟨rfl, rfl⟩ | ⟨-, hacc⟩ | ⟨rfl, rfl⟩
  · exact .access hu
  · exact .seq (seqStep_cases hseq).1
  · exact dispStep_eventEffect s
  · rw [hacc]
    exact .none
  · exact .reset

/-- An invariant of BCSH alone is kept by `step` where reset has it and accesses, SEQ and DISP keep
it. -/
theorem step_keeps {P : Bcsh → Prop} (reset : ∀ p, P (Bcsh.reset p))
    (access : ∀ {p b c}, AccessEffect p b c → P b → P c)
    (seq : ∀ {p accOut d b c}, SeqEffect p accOut d b c → P b → P c)
    (disp : ∀ {b}, P b → P { b with prngDone := true } ∧ P { b with aesIf := true })
    {s t : State} (hs : P s.b) (h : step s = .next t) : P t.b := by
  obtain ⟨e, s', he, -, hb, -⟩ := step_cases h
  rw [← hb] at hs
  have heff := takeEvent_eventEffect he
  generalize t.b = c at heff ⊢
  cases heff with
  | none => exact hs
  | access ha => exact access ha hs
  | seq hq => exact seq hq hs
  | prngServed => exact (disp hs).1
  | aesServed => exact (disp hs).2
  | reset => exact reset _

/-- What a corrector step leaves has `P` where both ends of a rejection have it, a taken sample has it,
and the delivery of a conditioned bit keeps it. -/
theorem correctorStep_induction {P : Bcsh → Prop} {p : Params} {d : Sample} {b : Bcsh}
    (count : P (countRejection b)) (abort : P ((countRejection b).abort .retryLimit))
    (taken : ∀ c, TakenSample p d b c → P c)
    (deliver : ∀ bit c, TakenSample p d b c → P c → P (deliver bit c)) :
    P (correctorStep p d b) := by
  rcases correctorStep_cases p d b with ⟨-, e⟩ | ⟨-, e⟩ | ⟨-, c, hc, e | ⟨bit, e⟩⟩ <;> rw [e]
  · exact count
  · exact abort
  · exact taken c hc
  · exact deliver bit c hc (taken c hc)

end Sys2Proof.Machine
end

section
/-! OP and INIT_DONE agree with STATE (10_state.md R34). -/

namespace Sys2Proof.Machine

theorem opAgrees_of_init {b : Bcsh} (hs : b.state = .initFill ∨ b.state = .initDiscard) :
    b.opAgrees ↔ (b.op = 1 ∨ b.op = 5) ∧ b.initDone = false := by
  rcases hs with hs | hs <;> simp only [Bcsh.opAgrees, hs]

theorem opAgrees_of_harvest {b : Bcsh}
    (hs : b.state ∈ [SeqState.hArm, .hSeed, .hStart, .hClear, .hWait, .hRead]) :
    b.opAgrees ↔ (b.op = 4 ∨ b.op = 5) ∧ b.initDone = true := by
  simp only [List.mem_cons, List.not_mem_nil, or_false] at hs
  rcases hs with hs | hs | hs | hs | hs | hs <;> simp only [Bcsh.opAgrees, hs]

theorem AccessEffect.opAgrees {p : Params} {b c : Bcsh} (h : AccessEffect p b c)
    (hb : b.opAgrees) : c.opAgrees := by
  cases h with
  | same | illegal | busy | notInit | ctrl | intsts | band => exact hb
  | initAgain => exact rfl
  | fillStart opc ho _ hd => exact ⟨ho, hd⟩
  | bitStart _ hd | wordStart _ hd => exact ⟨rfl, hd⟩
  | armStart opc ho _ hd => exact ⟨ho, hd⟩

theorem TakenSample.opAgrees {p : Params} {d : Sample} {b c : Bcsh} (h : TakenSample p d b c)
    (hb : b.opAgrees) : c.opAgrees := by
  obtain ⟨_, _, _, _, _, rfl, -⟩ := h
  exact hb

/-- The end of initialization finds OP at 1 or 5, so it never stays where it is (42_init.md R153). -/
theorem endOfInit_opAgrees {b : Bcsh} (ho : b.op = 1 ∨ b.op = 5) : (endOfInit b).opAgrees := by
  rcases endOfInit_cases b with ⟨-, e⟩ | ⟨h5, e⟩ | ⟨h1, h5, -⟩
  · rw [e]
    exact rfl
  · rw [e]
    exact ⟨.inr h5, rfl⟩
  · exact (ho.elim h1 h5).elim

theorem deliver_opAgrees (bit : Bool) {b : Bcsh} (hb : b.opAgrees) : (deliver bit b).opAgrees := by
  rcases deliver_cases bit b with
    ⟨-, e⟩ | ⟨-, -, e⟩ | ⟨hs, -, e⟩ | ⟨-, -, e⟩ | ⟨hs, -, e⟩ | ⟨-, e⟩ <;> rw [e]
  · exact rfl
  · exact hb
  · exact endOfInit_opAgrees ((opAgrees_of_init (.inr hs)).1 hb).1
  · exact rfl
  · have hop := (opAgrees_of_harvest (by simp [hs])).1 hb
    exact hop
  · exact hb

theorem fillStep_opAgrees (d : Sample) {b : Bcsh} (hs : b.state = .initFill) (hb : b.opAgrees) :
    (fillStep d b).opAgrees := by
  rcases fillStep_cases d b with ⟨-, e⟩ | ⟨-, e⟩ <;> rw [e]
  · exact hb
  · exact (opAgrees_of_init (.inl hs)).1 hb

theorem hStartBcsh_opAgrees (p : Params) {b : Bcsh} (hs : b.state = .hStart) (hb : b.opAgrees) :
    (hStartBcsh p b).opAgrees := by
  have hop := (opAgrees_of_harvest (by simp [hs])).1 hb
  unfold hStartBcsh
  split <;> exact hop

theorem SeqEffect.opAgrees {p : Params} {accOut : Block} {d : Sample} {b c : Bcsh}
    (h : SeqEffect p accOut d b c) (hb : b.opAgrees) : c.opAgrees := by
  cases h with
  | idle | held => exact hb
  | fill hs => exact fillStep_opAgrees d hs hb
  | corrector =>
    exact correctorStep_induction hb rfl (fun _ hc => hc.opAgrees hb)
      (fun bit _ _ hc => deliver_opAgrees bit hc)
  | arm hs | clear hs | go hs =>
    have hop := (opAgrees_of_harvest (by simp [hs])).1 hb
    exact hop
  | start hs => exact hStartBcsh_opAgrees p hs hb
  | read => exact rfl

/-- Settles O34: each effect of an access, of SEQ and of DISP keeps the agreement. -/
theorem opStaysInAgreementWithState : Obligations.OpStaysInAgreementWithState :=
  fun _ _ hs h => step_keeps (P := Bcsh.opAgrees) (fun _ => rfl) AccessEffect.opAgrees
    SeqEffect.opAgrees (fun hb => ⟨hb, hb⟩) hs h

end Sys2Proof.Machine
end

section
/-! SR, BITCNT and FILLIDX by STATE (10_state.md R25, R26, R35). -/

namespace Sys2Proof.Machine

theorem wordAgrees_of_word {b : Bcsh}
    (hs : b.state = .initDiscard ∨ b.state = .xword ∨ b.state = .hSeed) :
    b.wordAgrees ↔ b.bitcnt.toNat < 32 ∧ b.sr.toNat < 2 ^ b.bitcnt.toNat ∧ b.fillIdx = 0 := by
  rcases hs with hs | hs | hs <;> simp only [Bcsh.wordAgrees, hs]

theorem wordAgrees_of_rest {b : Bcsh}
    (hs : b.state ∈ [SeqState.idle, .xbit, .hArm, .hClear, .hWait, .hRead]) :
    b.wordAgrees ↔ b.sr = 0 ∧ b.bitcnt = 0 ∧ b.fillIdx = 0 := by
  simp only [List.mem_cons, List.not_mem_nil, or_false] at hs
  rcases hs with hs | hs | hs | hs | hs | hs <;> simp only [Bcsh.wordAgrees, hs]

/-- A word begins with no bit in SR (41_aggregator_conditioner.md R131). -/
theorem wordStart_wordAgrees {b : Bcsh}
    (hs : b.state = .initDiscard ∨ b.state = .xword ∨ b.state = .hSeed) (hf : b.fillIdx = 0) :
    b.wordStart.wordAgrees :=
  (wordAgrees_of_word (b := b.wordStart) hs).2 ⟨Nat.zero_lt_succ 31, Nat.one_pos, hf⟩

/-- An abort empties SR, BITCNT and FILLIDX (45_register_access.md R209). -/
theorem abort_wordAgrees (e : ErrCause) (b : Bcsh) : (b.abort e).wordAgrees := ⟨rfl, rfl, rfl⟩

/-- `complete()` leaves SR alone, which must therefore be 0 before it (45_register_access.md R208). -/
theorem complete_wordAgrees {b : Bcsh} (h : b.sr = 0) : b.complete.wordAgrees := ⟨h, rfl, rfl⟩

theorem AccessEffect.wordAgrees {p : Params} {b c : Bcsh} (h : AccessEffect p b c)
    (hb : b.wordAgrees) : c.wordAgrees := by
  have rest (hs : b.state = .idle) : b.sr = 0 ∧ b.bitcnt = 0 ∧ b.fillIdx = 0 :=
    (wordAgrees_of_rest (by simp [hs])).1 hb
  cases h with
  | same | illegal | busy | notInit | ctrl | intsts | band => exact hb
  | initAgain hs => exact complete_wordAgrees (rest hs).1
  | fillStart _ _ hs =>
    obtain ⟨hsr, hbit, -⟩ := rest hs
    exact ⟨hsr, hbit, Nat.zero_lt_succ 31⟩
  | bitStart hs | armStart _ _ hs => exact rest hs
  | wordStart hs =>
    obtain ⟨-, -, hf⟩ := rest hs
    exact wordStart_wordAgrees (.inr (.inl rfl)) hf

theorem TakenSample.wordAgrees {p : Params} {d : Sample} {b c : Bcsh} (h : TakenSample p d b c)
    (hb : b.wordAgrees) : c.wordAgrees := by
  obtain ⟨_, _, _, _, _, rfl, -⟩ := h
  exact hb

/-- One more bit in SR, one more place for it (41_aggregator_conditioner.md R134). -/
theorem shiftIn_sr_lt (bit : Bool) {b : Bcsh} {n : Nat} (h : b.sr.toNat < 2 ^ n) :
    (shiftIn bit b).sr.toNat < 2 ^ (n + 1) := by
  have hbit := bit.toNat_lt
  calc (shiftIn bit b).sr.toNat = (2 * b.sr.toNat + bit.toNat) % 2 ^ 32 := shiftIn_toNat bit b
    _ ≤ 2 * b.sr.toNat + bit.toNat := Nat.mod_le _ _
    _ < 2 ^ (n + 1) := by rw [pow_succ]; omega

theorem shiftIn_wordAgrees (bit : Bool) {b : Bcsh}
    (hs : b.state = .initDiscard ∨ b.state = .xword ∨ b.state = .hSeed) (hn : b.bitcnt + 1 ≠ 32)
    (hb : b.wordAgrees) : (shiftIn bit b).wordAgrees := by
  obtain ⟨hlt, hsr, hf⟩ := (wordAgrees_of_word hs).1 hb
  have hcount : (shiftIn bit b).bitcnt.toNat = b.bitcnt.toNat + 1 := by
    rw [shiftIn_bitcnt]
    bv_omega
  refine (wordAgrees_of_word (b := shiftIn bit b) hs).2 ⟨?_, ?_, hf⟩
  · rw [shiftIn_bitcnt]
    bv_omega
  · rw [hcount]
    exact shiftIn_sr_lt bit hsr

theorem endOfInit_wordAgrees {b : Bcsh} (hs : b.state = .initDiscard) (hf : b.fillIdx = 0) :
    (endOfInit b.wordStart).wordAgrees := by
  rcases endOfInit_cases b.wordStart with ⟨-, e⟩ | ⟨-, e⟩ | ⟨-, -, e⟩ <;> rw [e]
  · exact complete_wordAgrees rfl
  · exact ⟨rfl, rfl, hf⟩
  · exact wordStart_wordAgrees (b := { b with initDone := true }) (.inl hs) hf

theorem deliver_wordAgrees (bit : Bool) {b : Bcsh} (hb : b.wordAgrees) :
    (deliver bit b).wordAgrees := by
  rcases deliver_cases bit b with
    ⟨hs, e⟩ | ⟨hs, hn, e⟩ | ⟨hs, -, e⟩ | ⟨-, -, e⟩ | ⟨hs, -, e⟩ | ⟨-, e⟩ <;> rw [e]
  · exact complete_wordAgrees ((wordAgrees_of_rest (by simp [hs])).1 hb).1
  · exact shiftIn_wordAgrees bit hs hn hb
  · obtain ⟨-, -, hf⟩ := (wordAgrees_of_word (.inl hs)).1 hb
    exact endOfInit_wordAgrees hs hf
  · exact complete_wordAgrees rfl
  · obtain ⟨-, -, hf⟩ := (wordAgrees_of_word (.inr (.inr hs))).1 hb
    exact ⟨rfl, hf⟩
  · exact hb

theorem fillStep_wordAgrees (d : Sample) {b : Bcsh} (hs : b.state = .initFill)
    (hb : b.wordAgrees) : (fillStep d b).wordAgrees := by
  simp only [Bcsh.wordAgrees, hs] at hb
  obtain ⟨hsr, hbit, hf⟩ := hb
  rcases fillStep_cases d b with ⟨hn, e⟩ | ⟨-, e⟩ <;> rw [e]
  · have hnext : (b.fillIdx + 1).toNat < 32 := by bv_omega
    simp only [Bcsh.wordAgrees, fillPut_state, hs]
    exact ⟨hsr, hbit, hnext⟩
  · exact wordStart_wordAgrees (.inl rfl) rfl

/-- H_START sends SR away and leaves it 0, under either order (43_harvest.md R165). -/
theorem hStartBcsh_wordAgrees (p : Params) {b : Bcsh} (hs : b.state = .hStart)
    (hb : b.wordAgrees) : (hStartBcsh p b).wordAgrees := by
  simp only [Bcsh.wordAgrees, hs] at hb
  unfold hStartBcsh
  split <;> exact ⟨rfl, hb⟩

theorem SeqEffect.wordAgrees {p : Params} {accOut : Block} {d : Sample} {b c : Bcsh}
    (h : SeqEffect p accOut d b c) (hb : b.wordAgrees) : c.wordAgrees := by
  cases h with
  | idle | held => exact hb
  | fill hs => exact fillStep_wordAgrees d hs hb
  | corrector =>
    exact correctorStep_induction hb (abort_wordAgrees _ _) (fun _ hc => hc.wordAgrees hb)
      (fun bit _ _ hc => deliver_wordAgrees bit hc)
  | arm hs =>
    obtain ⟨-, -, hf⟩ := (wordAgrees_of_rest (by simp [hs])).1 hb
    exact wordStart_wordAgrees (.inr (.inr rfl)) hf
  | start hs => exact hStartBcsh_wordAgrees p hs hb
  | clear hs | go hs =>
    have hrest := (wordAgrees_of_rest (by simp [hs])).1 hb
    exact hrest
  | read hs => exact complete_wordAgrees ((wordAgrees_of_rest (by simp [hs])).1 hb).1

/-- Settles O35: each effect of an access, of SEQ and of DISP keeps it; the shift-in doubles the bound
on SR with each bit it counts. -/
theorem seedRegisterHoldsOnlyDeliveredBits : Obligations.SeedRegisterHoldsOnlyDeliveredBits :=
  fun _ _ hs h => step_keeps (P := Bcsh.wordAgrees) (fun _ => ⟨rfl, rfl, rfl⟩)
    AccessEffect.wordAgrees SeqEffect.wordAgrees (fun hb => ⟨hb, hb⟩) hs h

end Sys2Proof.Machine
end

section
/-! ACC_IE by STATE (10_state.md R38). -/

namespace Sys2Proof.Machine

theorem accIeAgrees_of_on {b : Bcsh}
    (hs : b.state ∈ [SeqState.hSeed, .hStart, .hClear, .hWait, .hRead]) :
    b.accIeAgrees ↔ b.accIe = true ∧ b.accClkEn = true := by
  simp only [List.mem_cons, List.not_mem_nil, or_false] at hs
  rcases hs with hs | hs | hs | hs | hs <;> simp only [Bcsh.accIeAgrees, hs]

theorem accIeAgrees_of_off {b : Bcsh}
    (hs : b.state ∈ [SeqState.idle, .initFill, .initDiscard, .xbit, .xword, .hArm]) :
    b.accIeAgrees ↔ b.accIe = false := by
  simp only [List.mem_cons, List.not_mem_nil, or_false] at hs
  rcases hs with hs | hs | hs | hs | hs | hs <;> simp only [Bcsh.accIeAgrees, hs]

theorem AccessEffect.accIeAgrees {p : Params} {b c : Bcsh} (h : AccessEffect p b c)
    (hb : b.accIeAgrees) : c.accIeAgrees := by
  have off (hs : b.state = .idle) : b.accIe = false := (accIeAgrees_of_off (by simp [hs])).1 hb
  cases h with
  | same | illegal | busy | notInit | ctrl | intsts | band => exact hb
  | initAgain hs | bitStart hs | wordStart hs | fillStart _ _ hs | armStart _ _ hs => exact off hs

theorem TakenSample.accIeAgrees {p : Params} {d : Sample} {b c : Bcsh} (h : TakenSample p d b c)
    (hb : b.accIeAgrees) : c.accIeAgrees := by
  obtain ⟨_, _, _, _, _, rfl, -⟩ := h
  exact hb

/-- Initialization ends in IDLE, in H_ARM, or where it stands: ACC_IE is 0 in all three. -/
theorem endOfInit_accIeAgrees {b : Bcsh} (hs : b.state = .initDiscard) (h : b.accIe = false) :
    (endOfInit b).accIeAgrees := by
  rcases endOfInit_cases b with ⟨-, e⟩ | ⟨-, e⟩ | ⟨-, -, e⟩ <;> rw [e]
  · exact h
  · exact h
  · exact (accIeAgrees_of_off (by simp [hs])).2 h

theorem deliver_accIeAgrees (bit : Bool) {b : Bcsh} (hb : b.accIeAgrees) :
    (deliver bit b).accIeAgrees := by
  have off (hs : b.state = .xbit ∨ b.state = .initDiscard ∨ b.state = .xword) : b.accIe = false :=
    (accIeAgrees_of_off (by rcases hs with hs | hs | hs <;> simp [hs])).1 hb
  rcases deliver_cases bit b with
    ⟨hs, e⟩ | ⟨-, -, e⟩ | ⟨hs, -, e⟩ | ⟨hs, -, e⟩ | ⟨hs, -, e⟩ | ⟨-, e⟩ <;> rw [e]
  · exact off (.inl hs)
  · exact hb
  · exact endOfInit_accIeAgrees hs (off (.inr (.inl hs)))
  · exact off (.inr (.inr hs))
  · have hon := (accIeAgrees_of_on (by simp [hs])).1 hb
    exact hon
  · exact hb

theorem fillStep_accIeAgrees (d : Sample) {b : Bcsh} (hs : b.state = .initFill)
    (hb : b.accIeAgrees) : (fillStep d b).accIeAgrees := by
  rcases fillStep_cases d b with ⟨-, e⟩ | ⟨-, e⟩ <;> rw [e]
  · exact hb
  · have hoff := (accIeAgrees_of_off (by simp [hs])).1 hb
    exact hoff

theorem hStartBcsh_accIeAgrees (p : Params) {b : Bcsh} (hs : b.state = .hStart)
    (hb : b.accIeAgrees) : (hStartBcsh p b).accIeAgrees := by
  have hon := (accIeAgrees_of_on (by simp [hs])).1 hb
  unfold hStartBcsh
  split <;> exact hon

theorem SeqEffect.accIeAgrees {p : Params} {accOut : Block} {d : Sample} {b c : Bcsh}
    (h : SeqEffect p accOut d b c) (hb : b.accIeAgrees) : c.accIeAgrees := by
  cases h with
  | idle | held => exact hb
  | fill hs => exact fillStep_accIeAgrees d hs hb
  | corrector =>
    exact correctorStep_induction hb rfl (fun _ hc => hc.accIeAgrees hb)
      (fun bit _ _ hc => deliver_accIeAgrees bit hc)
  | arm => exact ⟨rfl, rfl⟩
  | start hs => exact hStartBcsh_accIeAgrees p hs hb
  | clear hs | go hs =>
    have hon := (accIeAgrees_of_on (by simp [hs])).1 hb
    exact hon
  | read => exact rfl

/-- Settles O36: each effect of an access, of SEQ and of DISP keeps it; H_ARM raises ACC_IE, H_READ
and an abort clear it. -/
theorem accIeStaysWithTheHarvest : Obligations.AccIeStaysWithTheHarvest :=
  fun _ _ hs h => step_keeps (P := Bcsh.accIeAgrees) (fun _ => rfl) AccessEffect.accIeAgrees
    SeqEffect.accIeAgrees (fun hb => ⟨hb, hb⟩) hs h

end Sys2Proof.Machine
end

section
/-! Who writes PRNG_DONE, OUT and RESULT (10_state.md R28, R37; 45_register_access.md R207). -/

namespace Sys2Proof.Machine

/-- No HOST access writes PRNG_DONE, OUT or RESULT. -/
theorem AccessEffect.outputs_eq {p : Params} {b c : Bcsh} (h : AccessEffect p b c) :
    c.prngDone = b.prngDone ∧ c.out = b.out ∧ c.result = b.result := by
  cases h <;> exact ⟨rfl, rfl, rfl⟩

theorem TakenSample.frame {p : Params} {d : Sample} {b c : Bcsh} (h : TakenSample p d b c) :
    c.state = b.state ∧ c.prngDone = b.prngDone ∧ c.out = b.out ∧ c.result = b.result := by
  obtain ⟨_, _, _, _, _, rfl, -⟩ := h
  exact ⟨rfl, rfl, rfl, rfl⟩

theorem endOfInit_outputs_eq (b : Bcsh) : (endOfInit b).prngDone = b.prngDone ∧
    (endOfInit b).out = b.out ∧ (endOfInit b).result = b.result := by
  rcases endOfInit_cases b with ⟨-, e⟩ | ⟨-, e⟩ | ⟨-, -, e⟩ <;> rw [e] <;> exact ⟨rfl, rfl, rfl⟩

/-- RESULT is written only in a step that ends EXTRACT_BIT or EXTRACT_WORD, `b` before it and `c`
after it. -/
def ResultAtCompletion (b c : Bcsh) : Prop :=
  c.result ≠ b.result → c.state = .idle ∧ c.doneIf = true ∧ (b.state = .xbit ∨ b.state = .xword)

theorem resultAtCompletion_of_eq {b c : Bcsh} (h : c.result = b.result) : ResultAtCompletion b c :=
  fun hne => absurd h hne

theorem deliver_outputs (bit : Bool) (b : Bcsh) : (deliver bit b).prngDone = b.prngDone ∧
    (deliver bit b).out = b.out ∧ ResultAtCompletion b (deliver bit b) := by
  rcases deliver_cases bit b with
    ⟨hs, e⟩ | ⟨-, -, e⟩ | ⟨-, -, e⟩ | ⟨hs, -, e⟩ | ⟨-, -, e⟩ | ⟨-, e⟩ <;> rw [e]
  · exact ⟨rfl, rfl, fun _ => ⟨rfl, rfl, .inl hs⟩⟩
  · exact ⟨rfl, rfl, resultAtCompletion_of_eq rfl⟩
  · obtain ⟨hdone, hout, hres⟩ := endOfInit_outputs_eq (shiftIn bit b).wordStart
    exact ⟨hdone, hout, resultAtCompletion_of_eq hres⟩
  · exact ⟨rfl, rfl, fun _ => ⟨rfl, rfl, .inr hs⟩⟩
  · exact ⟨rfl, rfl, resultAtCompletion_of_eq rfl⟩
  · exact ⟨rfl, rfl, resultAtCompletion_of_eq rfl⟩

theorem correctorStep_outputs (p : Params) (d : Sample) (b : Bcsh) :
    (correctorStep p d b).prngDone = b.prngDone ∧ (correctorStep p d b).out = b.out ∧
      ResultAtCompletion b (correctorStep p d b) := by
  refine correctorStep_induction
    (P := fun c => c.prngDone = b.prngDone ∧ c.out = b.out ∧ ResultAtCompletion b c)
    ⟨rfl, rfl, resultAtCompletion_of_eq rfl⟩ ⟨rfl, rfl, resultAtCompletion_of_eq rfl⟩
    (fun c hc => ?_) (fun bit c hc _ => ?_)
  · obtain ⟨-, hdone, hout, hres⟩ := hc.frame
    exact ⟨hdone, hout, resultAtCompletion_of_eq hres⟩
  · obtain ⟨hstate, hdone, hout, hres⟩ := hc.frame
    obtain ⟨hdone', hout', hres'⟩ := deliver_outputs bit c
    refine ⟨hdone'.trans hdone, hout'.trans hout, ?_⟩
    rwa [ResultAtCompletion, hres, hstate] at hres'

theorem fillStep_outputs_eq (d : Sample) (b : Bcsh) : (fillStep d b).prngDone = b.prngDone ∧
    (fillStep d b).out = b.out ∧ (fillStep d b).result = b.result := by
  rcases fillStep_cases d b with ⟨-, e⟩ | ⟨-, e⟩ <;> rw [e] <;> exact ⟨rfl, rfl, rfl⟩

theorem hStartBcsh_outputs (p : Params) (b : Bcsh) :
    ((hStartBcsh p b).prngDone = b.prngDone ∨ (hStartBcsh p b).prngDone = false) ∧
    (hStartBcsh p b).out = b.out ∧ (hStartBcsh p b).result = b.result := by
  unfold hStartBcsh
  split
  · exact ⟨.inr rfl, rfl, rfl⟩
  · exact ⟨.inl rfl, rfl, rfl⟩

/-- SEQ leaves PRNG_DONE alone, or clears it in H_START or H_CLEAR (10_state.md R37). -/
theorem SeqEffect.prngDone_cases {p : Params} {accOut : Block} {d : Sample} {b c : Bcsh}
    (h : SeqEffect p accOut d b c) :
    c.prngDone = b.prngDone ∨
      (c.prngDone = false ∧ (b.state = .hStart ∨ b.state = .hClear)) := by
  cases h with
  | idle | held | arm | go | read => exact .inl rfl
  | fill => exact .inl (fillStep_outputs_eq d b).1
  | corrector => exact .inl (correctorStep_outputs p d b).1
  | start hs => exact (hStartBcsh_outputs p b).1.imp id (fun hc => ⟨hc, .inl hs⟩)
  | clear hs => exact .inr ⟨rfl, .inr hs⟩

/-- SEQ writes OUT in H_READ only (43_harvest.md R168). -/
theorem SeqEffect.out_eq {p : Params} {accOut : Block} {d : Sample} {b c : Bcsh}
    (h : SeqEffect p accOut d b c) (hs : b.state ≠ .hRead) : c.out = b.out := by
  cases h with
  | idle | held | arm | go | clear => rfl
  | fill => exact (fillStep_outputs_eq d b).2.1
  | corrector => exact (correctorStep_outputs p d b).2.1
  | start => exact (hStartBcsh_outputs p b).2.1
  | read h => exact absurd h hs

/-- H_READ writes RESULT for GET_WORD only (43_harvest.md R168). -/
theorem hReadStep_result_of_ne (accOut : Block) {b : Bcsh} (h : b.op ≠ 5) :
    (hReadStep accOut b).result = b.result := if_neg h

/-- SEQ writes RESULT only in a step that completes a command (45_register_access.md R207). -/
theorem SeqEffect.result_cases {p : Params} {accOut : Block} {d : Sample} {b c : Bcsh}
    (h : SeqEffect p accOut d b c) (hne : c.result ≠ b.result) :
    c.state = .idle ∧ c.doneIf = true ∧
      (b.state = .xbit ∨ b.state = .xword ∨ b.state = .hRead ∧ b.op = 5) := by
  cases h with
  | idle | held | arm | go | clear => exact absurd rfl hne
  | fill => exact absurd (fillStep_outputs_eq d b).2.2 hne
  | corrector =>
    obtain ⟨hidle, hdone, hs⟩ := (correctorStep_outputs p d b).2.2 hne
    exact ⟨hidle, hdone, hs.imp id .inl⟩
  | start => exact absurd (hStartBcsh_outputs p b).2.2 hne
  | read hs =>
    have hop : b.op = 5 := by_contra fun hop => hne (hReadStep_result_of_ne accOut hop)
    exact ⟨rfl, rfl, .inr (.inr ⟨hs, hop⟩)⟩

/-- Settles O53, by the effects of an event on BCSH. -/
theorem prngDoneIsSetByDispClearedBySeq : Obligations.PrngDoneIsSetByDispClearedBySeq := by
  intro e s t h
  have heff := takeEvent_eventEffect h
  generalize t.b = c at heff ⊢
  cases heff with
  | none => simp +contextual
  | access ha => simp +contextual [ha.outputs_eq]
  | @seq _ d _ hq =>
    rcases hq.prngDone_cases with hc | ⟨hc, hs⟩
    · simp +contextual [hc]
    · exact ⟨by simp [hc], fun _ _ => .inr ⟨⟨d, rfl⟩, hs⟩⟩
  | prngServed => exact ⟨fun _ _ => rfl, by simp⟩
  | aesServed => simp +contextual
  | reset => exact ⟨by simp [Bcsh.reset], fun _ _ => .inl rfl⟩

/-- Settles O54, by the effects of an event on BCSH. -/
theorem outAndResultAreWrittenAtCompletion : Obligations.OutAndResultAreWrittenAtCompletion := by
  intro e s t h hreset
  have heff := takeEvent_eventEffect h
  generalize t.b = c at heff ⊢
  cases heff with
  | none | prngServed | aesServed => simp
  | access ha => simp [ha.outputs_eq]
  | @seq _ d _ hq =>
    exact ⟨fun hout => ⟨⟨d, rfl⟩, by_contra fun hs => hout (hq.out_eq hs)⟩,
      fun hres => ⟨⟨d, rfl⟩, hq.result_cases hres⟩⟩
  | reset => exact absurd rfl hreset

end Sys2Proof.Machine
end

section
/-! Sticky state (10_state.md R24, R30, R38, R39; 45_register_access.md R204). -/

namespace Sys2Proof.Machine

/-- From `b` to `c` INIT_DONE and ACC_CLK_EN do not fall and REJCNT does not decrease. -/
structure StickyKept (b c : Bcsh) : Prop where
  initDone : b.initDone = true → c.initDone = true
  accClkEn : b.accClkEn = true → c.accClkEn = true
  rejcnt : b.rejcnt.toNat ≤ c.rejcnt.toNat

/-- From `b` to `c` no flag of INTSTS falls. -/
structure FlagsKept (b c : Bcsh) : Prop where
  doneIf : b.doneIf = true → c.doneIf = true
  errIf : b.errIf = true → c.errIf = true
  hlthIf : b.hlthIf = true → c.hlthIf = true
  aesIf : b.aesIf = true → c.aesIf = true

theorem StickyKept.refl (b : Bcsh) : StickyKept b b := ⟨id, id, le_rfl⟩

theorem StickyKept.trans {a b c : Bcsh} (h : StickyKept a b) (k : StickyKept b c) :
    StickyKept a c :=
  ⟨k.initDone ∘ h.initDone, k.accClkEn ∘ h.accClkEn, h.rejcnt.trans k.rejcnt⟩

theorem FlagsKept.refl (b : Bcsh) : FlagsKept b b := ⟨id, id, id, id⟩

theorem FlagsKept.trans {a b c : Bcsh} (h : FlagsKept a b) (k : FlagsKept b c) : FlagsKept a c :=
  ⟨k.doneIf ∘ h.doneIf, k.errIf ∘ h.errIf, k.hlthIf ∘ h.hlthIf, k.aesIf ∘ h.aesIf⟩

theorem flagsKept_cmdError (e : ErrCause) (b : Bcsh) : FlagsKept b (b.cmdError e) :=
  ⟨id, fun _ => rfl, id, id⟩

theorem AccessEffect.stickyKept {p : Params} {b c : Bcsh} (h : AccessEffect p b c) :
    StickyKept b c := by
  cases h <;> exact ⟨id, id, le_rfl⟩

theorem TakenSample.kept {p : Params} {d : Sample} {b c : Bcsh} (h : TakenSample p d b c) :
    StickyKept b c ∧ FlagsKept b c := by
  obtain ⟨_, _, _, _, _, rfl, hhlth, -⟩ := h
  exact ⟨⟨id, id, le_rfl⟩, ⟨id, id, hhlth, id⟩⟩

/-- REJCNT saturates, so a rejection does not lower it (40_bias_corrector.md R104). -/
theorem le_satInc32 (x : Word) : x.toNat ≤ (satInc32 x).toNat := by
  have hx := x.isLt
  rw [satInc32_toNat]
  omega

theorem countRejection_kept (b : Bcsh) :
    StickyKept b (countRejection b) ∧ FlagsKept b (countRejection b) :=
  ⟨⟨id, id, le_satInc32 b.rejcnt⟩, ⟨id, id, id, id⟩⟩

theorem abort_kept (e : ErrCause) (b : Bcsh) :
    StickyKept b (b.abort e) ∧ FlagsKept b (b.abort e) :=
  ⟨⟨id, id, le_rfl⟩, ⟨id, fun _ => rfl, id, id⟩⟩

theorem endOfInit_kept (b : Bcsh) : StickyKept b (endOfInit b) ∧ FlagsKept b (endOfInit b) := by
  rcases endOfInit_cases b with ⟨-, e⟩ | ⟨-, e⟩ | ⟨-, -, e⟩ <;> rw [e]
  · exact ⟨⟨fun _ => rfl, id, le_rfl⟩, ⟨fun _ => rfl, id, id, id⟩⟩
  · exact ⟨⟨fun _ => rfl, id, le_rfl⟩, ⟨id, id, id, id⟩⟩
  · exact ⟨⟨fun _ => rfl, id, le_rfl⟩, ⟨id, id, id, id⟩⟩

theorem deliver_kept (bit : Bool) (b : Bcsh) :
    StickyKept b (deliver bit b) ∧ FlagsKept b (deliver bit b) := by
  rcases deliver_cases bit b with
    ⟨-, e⟩ | ⟨-, -, e⟩ | ⟨-, -, e⟩ | ⟨-, -, e⟩ | ⟨-, -, e⟩ | ⟨-, e⟩ <;> rw [e]
  · exact ⟨⟨id, id, le_rfl⟩, ⟨fun _ => rfl, id, id, id⟩⟩
  · exact ⟨⟨id, id, le_rfl⟩, ⟨id, id, id, id⟩⟩
  · obtain ⟨⟨hi, ha, hr⟩, ⟨hd, he, hh, hes⟩⟩ := endOfInit_kept (shiftIn bit b).wordStart
    exact ⟨⟨hi, ha, hr⟩, ⟨hd, he, hh, hes⟩⟩
  · exact ⟨⟨id, id, le_rfl⟩, ⟨fun _ => rfl, id, id, id⟩⟩
  · exact ⟨⟨id, id, le_rfl⟩, ⟨id, id, id, id⟩⟩
  · exact ⟨.refl b, .refl b⟩

theorem correctorStep_kept (p : Params) (d : Sample) (b : Bcsh) :
    StickyKept b (correctorStep p d b) ∧ FlagsKept b (correctorStep p d b) := by
  obtain ⟨hsticky, hflags⟩ := countRejection_kept b
  obtain ⟨habort, habort'⟩ := abort_kept .retryLimit (countRejection b)
  refine correctorStep_induction (P := fun c => StickyKept b c ∧ FlagsKept b c)
    ⟨hsticky, hflags⟩ ⟨hsticky.trans habort, hflags.trans habort'⟩ (fun _ hc => hc.kept)
    (fun bit c _ hc => ?_)
  obtain ⟨hdeliver, hdeliver'⟩ := deliver_kept bit c
  exact ⟨hc.1.trans hdeliver, hc.2.trans hdeliver'⟩

theorem fillStep_kept (d : Sample) (b : Bcsh) :
    StickyKept b (fillStep d b) ∧ FlagsKept b (fillStep d b) := by
  rcases fillStep_cases d b with ⟨-, e⟩ | ⟨-, e⟩ <;> rw [e] <;>
    exact ⟨⟨id, id, le_rfl⟩, ⟨id, id, id, id⟩⟩

theorem hStartBcsh_kept (p : Params) (b : Bcsh) :
    StickyKept b (hStartBcsh p b) ∧ FlagsKept b (hStartBcsh p b) := by
  unfold hStartBcsh
  split <;> exact ⟨⟨id, id, le_rfl⟩, ⟨id, id, id, id⟩⟩

theorem SeqEffect.kept {p : Params} {accOut : Block} {d : Sample} {b c : Bcsh}
    (h : SeqEffect p accOut d b c) : StickyKept b c ∧ FlagsKept b c := by
  cases h with
  | idle | held => exact ⟨.refl b, .refl b⟩
  | clear | go => exact ⟨⟨id, id, le_rfl⟩, ⟨id, id, id, id⟩⟩
  | fill => exact fillStep_kept d b
  | corrector => exact correctorStep_kept p d b
  | arm => exact ⟨⟨id, fun _ => rfl, le_rfl⟩, ⟨id, id, id, id⟩⟩
  | start => exact hStartBcsh_kept p b
  | read => exact ⟨⟨id, id, le_rfl⟩, ⟨fun _ => rfl, id, id, id⟩⟩

theorem dispStep_flagsKept (s : State) : FlagsKept s.b (dispStep s).b := by
  rcases dispStep_cases s with ⟨-, e⟩ | ⟨-, -, e⟩ | ⟨-, e⟩ <;> rw [e]
  · exact ⟨id, id, id, id⟩
  · exact ⟨id, id, id, fun _ => rfl⟩
  · exact .refl s.b

/-- Only the reset lowers INIT_DONE, ACC_CLK_EN or REJCNT. -/
theorem takeEvent_stickyKept {e : Event} {s t : State} (h : takeEvent e s = .next t)
    (hreset : e ≠ .reset) : StickyKept s.b t.b := by
  have heff := takeEvent_eventEffect h
  generalize t.b = c at heff ⊢
  cases heff with
  | none => exact .refl s.b
  | access ha => exact ha.stickyKept
  | seq hq => exact hq.kept.1
  | prngServed | aesServed => exact ⟨id, id, le_rfl⟩
  | reset => exact absurd rfl hreset

/-- A command that is refused raises ERRIF; one that is accepted does what `f` does. -/
theorem flagsKept_issue {n : Bool} {f : Bcsh → Bcsh} {b : Bcsh} (hf : FlagsKept b (f b)) :
    FlagsKept b (b.issue n f) := by
  rcases issue_cases n f b with ⟨-, e⟩ | ⟨-, -, -, e⟩ | ⟨-, -, e⟩ <;> rw [e]
  · exact flagsKept_cmdError .busy b
  · exact flagsKept_cmdError .notInit b
  · exact hf

theorem flagsKept_acceptInit (b : Bcsh) : FlagsKept b b.acceptInit := by
  unfold Bcsh.acceptInit
  split
  · exact ⟨fun _ => rfl, id, id, id⟩
  · exact ⟨id, id, id, id⟩

theorem flagsKept_acceptGetWord (b : Bcsh) : FlagsKept b b.acceptGetWord := by
  unfold Bcsh.acceptGetWord
  split <;> exact ⟨id, id, id, id⟩

/-- No command clears a flag. -/
theorem exec_opcodeInstr_flagsKept {o : Opcode} {s t : State}
    (h : exec (opcodeInstr o) s = .next t) : FlagsKept s.b t.b := by
  cases o <;> cases h
  case nop => exact .refl s.b
  case init => exact flagsKept_issue (flagsKept_acceptInit s.b)
  case getWord => exact flagsKept_issue (flagsKept_acceptGetWord s.b)
  all_goals exact flagsKept_issue ⟨id, id, id, id⟩

/-- A write of CMD runs the command its data word is, or is an illegal command
(45_register_access.md R201). -/
theorem exec_wrCmd (w : Word) (s : State) :
    exec (.wrCmd w) s =
      (decodeOpcode w).elim (.next (illegalCommand s)) (fun o => exec (opcodeInstr o) s) := by
  cases h : decodeOpcode w with
  | none => simp only [exec, execWrCmd, h, Option.elim_none]
  | some o => cases o <;> simp only [exec, execWrCmd, h] <;> rfl

theorem exec_wrCmd_flagsKept {w : Word} {s t : State} (h : exec (.wrCmd w) s = .next t) :
    FlagsKept s.b t.b := by
  rw [exec_wrCmd] at h
  cases ho : decodeOpcode w with
  | none =>
    rw [ho] at h
    cases h
    exact flagsKept_cmdError .illegal s.b
  | some o =>
    rw [ho] at h
    exact exec_opcodeInstr_flagsKept h

/-- No instruction but a write of INTSTS clears a flag (45_register_access.md R204). -/
theorem exec_flagsKept {i : Instr} {s t : State} (hi : ∀ w, i ≠ .wrIntsts w)
    (h : exec i s = .next t) : FlagsKept s.b t.b := by
  cases i with
  | nop => exact exec_opcodeInstr_flagsKept (o := .nop) h
  | init => exact exec_opcodeInstr_flagsKept (o := .init) h
  | extractBit => exact exec_opcodeInstr_flagsKept (o := .extractBit) h
  | extractWord => exact exec_opcodeInstr_flagsKept (o := .extractWord) h
  | harvest => exact exec_opcodeInstr_flagsKept (o := .harvest) h
  | getWord => exact exec_opcodeInstr_flagsKept (o := .getWord) h
  | wrCmd w => exact exec_wrCmd_flagsKept h
  | wrIntsts w => exact absurd rfl (hi w)
  | wrCtrl | wrBandLo | wrBandHi | wrStatus | wrResult | wrSeed | wrSum | wrCursor | wrLasts
  | wrRejcnt | wrOut | wrWin | rdCmd | rdStatus | rdCtrl | rdIntsts | rdResult | rdSeed | rdSum
  | rdCursor | rdBandLo | rdBandHi | rdLasts | rdRejcnt | rdOut | rdWin =>
    cases h
    exact ⟨id, id, id, id⟩

theorem hostAccess_flagsKept {i : Instr} {k : Word → HostSw → HostSw} {s t : State}
    (hi : ∀ w, i ≠ .wrIntsts w) (h : hostAccess i k s = .next t) : FlagsKept s.b t.b := by
  obtain ⟨u, hu, -⟩ := exec_accessTo i s
  have hkept := exec_flagsKept hi hu
  simp only [hostAccess, hu] at h
  cases h
  exact hkept

/-- The HOST software never writes INTSTS (44_host_protocol.md R192, R195). -/
theorem programStep_flagsKept {s t : State} (h : programStep s = .next t) :
    FlagsKept s.b t.b := by
  unfold programStep at h
  split at h
  · cases h
    exact .refl s.b
  all_goals exact hostAccess_flagsKept (fun _ => Instr.noConfusion) h

/-- An event clears a flag only as a HOST access or as the reset. -/
theorem takeEvent_flagsKept {e : Event} {s t : State} (h : takeEvent e s = .next t)
    (hreset : e ≠ .reset) (hhost : ∀ w, e ≠ .host w) (hmem : ∀ a, e ≠ .mem a) :
    FlagsKept s.b t.b := by
  cases e with
  | host w => exact absurd rfl (hhost w)
  | mem a => exact absurd rfl (hmem a)
  | program => exact programStep_flagsKept h
  | seq d => exact (seqStep_cases h).1.kept.2
  | disp =>
    cases h
    exact dispStep_flagsKept s
  | call | accDone | accAesDone | accAesIe =>
    cases h
    exact .refl s.b
  | reset => exact absurd rfl hreset

/-- A flag that the bit of a write-one-to-clear word clears had that bit 1. -/
theorem bit_of_cleared {f g : Bool} (hf : f = true) (hc : (f && !g) = false) : g = true := by
  simpa [hf] using hc

/-- Settles O55: the effects of an event on BCSH, and of the instructions WR_INTSTS alone clears a
flag. -/
theorem stickyStateFallsOnlyAsStated : Obligations.StickyStateFallsOnlyAsStated := by
  refine ⟨fun e s t h hreset => ?_, fun i s t h => ?_⟩
  · obtain ⟨hinit, hclk, hrej⟩ := takeEvent_stickyKept h hreset
    refine ⟨hinit, hclk, hrej, fun hhost hmem => ?_⟩
    obtain ⟨hdone, herr, hhlth, haes⟩ := takeEvent_flagsKept h hreset hhost hmem
    exact ⟨hdone, herr, hhlth, haes⟩
  · by_cases hi : ∃ w, i = .wrIntsts w
    · obtain ⟨w, rfl⟩ := hi
      cases h
      exact ⟨fun hf hc => ⟨w, rfl, bit_of_cleared hf hc⟩, fun hf hc => ⟨w, rfl, bit_of_cleared hf hc⟩,
        fun hf hc => ⟨w, rfl, bit_of_cleared hf hc⟩, fun hf hc => ⟨w, rfl, bit_of_cleared hf hc⟩⟩
    · obtain ⟨hdone, herr, hhlth, haes⟩ := exec_flagsKept (not_exists.1 hi) h
      simp +contextual [hdone, herr, hhlth, haes]

end Sys2Proof.Machine
end

section
/-! The reset state: every invariant of BCSH, and the launch premises (70_reset_and_hazards.md R271,
R280). -/

namespace Sys2Proof.Machine

/-- The parameters of `State.reset` are ones 00_scope.md R7 admits, whatever the OPEN values are. -/
theorem config_params_wellFormed : Config.params.wellFormed = true := by
  have hbase : (Config.baseHigh ++ 0#8).toNat % 256 = 0 := by
    rw [BitVec.toNat_append, Nat.shiftLeft_eq]
    simp
  have hcutoff : Config.rctCutoffCode.toNat ≤ 0xFFFF := Nat.le_of_lt_succ Config.rctCutoffCode.isLt
  simp [Params.wellFormed, Params.baseAligned, Params.retryLegal, Params.cutoffLegal, Config.params,
    hbase, hcutoff]

theorem reset_launch : State.reset.launch :=
  ⟨rfl, rfl, ⟨rfl, rfl, rfl⟩, ⟨rfl, rfl, rfl, rfl, rfl⟩, config_params_wellFormed⟩

theorem reset_condAgrees : State.reset.condAgrees :=
  ⟨fun _ => ⟨rfl, rfl, rfl⟩, fun _ => ⟨rfl, rfl, rfl⟩, fun _ => rfl, Nat.zero_le 4⟩

/-- No harvest is under way after reset. -/
theorem reset_completionAhead : State.reset.completionAhead :=
  fun _ => ⟨nofun, nofun, nofun⟩

theorem reset_sumExact (p : Params) : (Bcsh.reset p).sumExact := by
  show 0 = windowSum (Vector.replicate 32 0#12)
  decide

/-- Settles O40, an invariant at a time. -/
theorem resetMeetsEveryInvariant : Obligations.ResetMeetsEveryInvariant :=
  ⟨reset_sumExact _, rfl, ⟨rfl, rfl, rfl⟩, rfl, reset_condAgrees, reset_completionAhead, rfl,
    reset_launch⟩

end Sys2Proof.Machine
end

section
/-! Which descriptors select a row, and what the others do (20_memory.md R62 to R64;
30_encoding.md R86, R87). -/

namespace Sys2Proof.Machine

theorem adSize_eq_iff (ad : BitVec 11) : adSize ad = 2#2 ↔ ad.toNat / 512 = 2 := by
  have hlt := ad.isLt
  rw [adSize, ← BitVec.toNat_inj, BitVec.extractLsb'_toNat, Nat.shiftRight_eq_div_pow]
  simp only [BitVec.toNat_ofNat]
  omega

theorem adAligned_iff (ad : BitVec 11) : ad.extractLsb' 0 2 = 0#2 ↔ ad.toNat % 4 = 0 := by
  rw [← BitVec.toNat_inj, BitVec.extractLsb'_toNat]
  simp

theorem adOff_toNat (ad : BitVec 11) : (adOff ad).toNat = ad.toNat % 256 := by
  rw [adOff, BitVec.extractLsb'_toNat]
  simp

/-- An aligned offset names no register exactly in the two holes of the aperture (10_state.md R40). -/
theorem decodeReg_eq_none_iff {off : BitVec 8} (hal : off.toNat % 4 = 0) :
    decodeReg off = none ↔
      (0x30 ≤ off.toNat ∧ off.toNat ≤ 0x3F) ∨ (0x60 ≤ off.toNat ∧ off.toNat ≤ 0x7F) := by
  have hlt := off.isLt
  have hwin : off.getLsbD 7 = true ↔ 128 ≤ off.toNat := by
    rw [← BitVec.msb_eq_getLsbD_last, BitVec.msb_eq_decide]
    simp
  have hout : off.extractLsb' 5 3 = 0b010#3 ↔ off.toNat / 32 = 2 := by
    rw [← BitVec.toNat_inj, BitVec.extractLsb'_toNat, Nat.shiftRight_eq_div_pow]
    simp only [BitVec.toNat_ofNat]
    omega
  unfold decodeReg
  simp only [hwin, hout]
  split_ifs
  · simp only [false_iff]
    omega
  · simp only [false_iff]
    omega
  · split
    case h_13 =>
      simp only [imp_false] at *
      simp only [true_iff]
      omega
    all_goals
      simp only [false_iff, reduceCtorEq]
      omega

/-- The descriptors that select no row: a wrong SIZE, a misaligned offset, or an offset in a hole. -/
theorem bus_not_wellFormed_iff (ad : BitVec 11) (data : Word) :
    (HostWord.bus ad data).wellFormed = false ↔
      ad.toNat / 512 ≠ 2 ∨ ad.toNat % 4 ≠ 0 ∨
        (0x30 ≤ ad.toNat % 256 ∧ ad.toNat % 256 ≤ 0x3F) ∨
        (0x60 ≤ ad.toNat % 256 ∧ ad.toNat % 256 ≤ 0x7F) := by
  simp only [HostWord.wellFormed, busSizeLegal, busAligned, busMapped, Bool.and_eq_false_iff,
    Bool.not_eq_false', Bool.and_eq_true, decide_eq_false_iff_not, decide_eq_true_eq]
  tauto

/-- The decoder of descriptors rejects exactly those, and never as an illegal command
(30_encoding.md R87). -/
theorem decode_bus_cases (ad : BitVec 11) (data : Word) :
    ((HostWord.bus ad data).wellFormed = false ∧
      ∃ e, e ≠ .illegalCommand ∧ decode (.bus ad data) = .error e) ∨
    ((HostWord.bus ad data).wellFormed = true ∧ ∃ i, decode (.bus ad data) = .ok i) := by
  rw [← Bool.not_eq_false, bus_not_wellFormed_iff]
  simp only [decode, decodeBus]
  by_cases hsize : ad.toNat / 512 = 2
  case neg =>
    rw [if_pos (mt (adSize_eq_iff ad).1 hsize)]
    exact .inl ⟨.inl hsize, .badSize, nofun, rfl⟩
  rw [if_neg (not_not.2 ((adSize_eq_iff ad).2 hsize))]
  by_cases hal : ad.toNat % 4 = 0
  case neg =>
    rw [if_pos (mt (adAligned_iff ad).1 hal)]
    exact .inl ⟨.inr (.inl hal), .misaligned, nofun, rfl⟩
  rw [if_neg (not_not.2 ((adAligned_iff ad).2 hal))]
  have hhole := decodeReg_eq_none_iff (off := adOff ad) (by rw [adOff_toNat]; omega)
  rw [adOff_toNat] at hhole
  cases hreg : decodeReg (adOff ad) with
  | none => exact .inl ⟨.inr (.inr (hhole.1 hreg)), .unmapped, nofun, rfl⟩
  | some r =>
    have hmapped := mt hhole.2 (by simp [hreg])
    exact .inr ⟨by simp only [hsize, hal, hmapped]; decide, _, rfl⟩

/-- A descriptor the decoder rejects is a bus error (60_exceptions.md R236). -/
theorem takeEvent_bus_of_decode_error {ad : BitVec 11} {data : Word} {e : DecodeError}
    (he : e ≠ .illegalCommand) (h : decode (.bus ad data) = .error e) (s : State) :
    takeEvent (.host (.bus ad data)) s = .next { s with resp := .busError } := by
  simp only [takeEvent, hostStep, h]
  cases e with
  | illegalCommand => exact absurd rfl he
  | badSize | misaligned | unmapped => rfl

/-- Settles O4: the decoder rejects exactly the ill-formed descriptors, each by one of the three bus
errors. -/
theorem inadmissibleAccessIsABusErrorWithoutEffect :
    Obligations.InadmissibleAccessIsABusErrorWithoutEffect := by
  intro s ad data
  split_ifs with hbad
  all_goals
    rw [← bus_not_wellFormed_iff ad data] at hbad
    rcases decode_bus_cases ad data with ⟨hwf, e, he, hdecode⟩ | ⟨hwf, i, hdecode⟩
  · exact takeEvent_bus_of_decode_error he hdecode s
  · exact absurd (hbad.symm.trans hwf) nofun
  · exact absurd hwf hbad
  · exact ⟨i, hdecode, takeEvent_host_of_decode_ok hdecode s⟩

end Sys2Proof.Machine
end

section
/-! An access by its address is the access by its descriptor (20_memory.md R60, R62). -/

namespace Sys2Proof.Machine

/-- The aperture is the 256 bytes from an aligned P_BASE up (20_memory.md R60). -/
theorem inAperture_iff {p : Params} (hbase : p.base.toNat % 256 = 0) (a : Word) :
    inAperture p a = true ↔ p.base.toNat ≤ a.toNat ∧ a.toNat < p.base.toNat + 256 := by
  have ha := a.isLt
  have hp := p.base.isLt
  rw [inAperture, beq_iff_eq, ← BitVec.toNat_inj]
  simp only [BitVec.extractLsb'_toNat, Nat.shiftRight_eq_div_pow]
  omega

/-- SIZE, W and OFF stand side by side in a descriptor (30_encoding.md R86). -/
theorem accessDescriptor_toNat (a : MemAccess) :
    (accessDescriptor a).toNat =
      512 * a.size.toNat + (if a.write then 256 else 0) + a.addr.toNat % 256 := by
  have hlow : (a.addr.extractLsb' 0 8).toNat = a.addr.toNat % 256 := by
    rw [BitVec.extractLsb'_toNat]
    simp
  have hwrite : (BitVec.ofBool a.write).toNat = if a.write then 1 else 0 := by
    cases a.write <;> rfl
  have hlt := (a.addr.extractLsb' 0 8).isLt
  have hlt' := (BitVec.ofBool a.write).isLt
  rw [accessDescriptor, BitVec.toNat_append, BitVec.toNat_append,
    ← Nat.shiftLeft_add_eq_or_of_lt hlt, ← Nat.shiftLeft_add_eq_or_of_lt hlt', hlow, hwrite,
    Nat.shiftLeft_eq, Nat.shiftLeft_eq]
  split_ifs <;> omega

/-- In the aperture the offset of an address is what lies above P_BASE. -/
theorem accessDescriptor_eq {p : Params} {a : MemAccess} (hbase : p.base.toNat % 256 = 0)
    (ha : p.base.toNat ≤ a.addr.toNat ∧ a.addr.toNat < p.base.toNat + 256) :
    accessDescriptor a = BitVec.ofNat 11
      (512 * a.size.toNat + (if a.write then 256 else 0) + (a.addr.toNat - p.base.toNat)) := by
  have hoff : a.addr.toNat % 256 = a.addr.toNat - p.base.toNat := by omega
  rw [← hoff, ← accessDescriptor_toNat, BitVec.ofNat_toNat, BitVec.setWidth_eq]

/-- Settles O6, by the aperture's bounds and the descriptor an address in it has. -/
theorem accessByAddressIsTheAccessByDescriptor :
    Obligations.AccessByAddressIsTheAccessByDescriptor := by
  intro s a hbase
  simp only [takeEvent, memStep, inAperture_iff hbase]
  by_cases hin : s.par.base.toNat ≤ a.addr.toNat ∧ a.addr.toNat < s.par.base.toNat + 256
  · rw [if_pos hin, if_pos hin, accessDescriptor_eq hbase hin]
  · rw [if_neg hin, if_neg hin]
    rfl

end Sys2Proof.Machine
end

section
/-! What a HOST access leaves as it was: all but what the write rows name (20_memory.md R66). -/

namespace Sys2Proof.Machine

/-- No access writes these fields of BCSH, and none sets HLTHIF or AESIF. -/
theorem AccessEffect.frame {p : Params} {b c : Bcsh} (h : AccessEffect p b c) :
    c.win = b.win ∧ c.sum = b.sum ∧ c.cursor = b.cursor ∧ c.initDone = b.initDone ∧
    c.result = b.result ∧ c.out = b.out ∧ c.lasts = b.lasts ∧ c.rejcnt = b.rejcnt ∧
    c.prngDone = b.prngDone ∧ c.accClkEn = b.accClkEn ∧ c.accIe = b.accIe ∧
    c.hlthIf = (c.hlthIf && b.hlthIf) ∧ c.aesIf = (c.aesIf && b.aesIf) ∧
    c.vnb1 = b.vnb1 ∧ c.rctLast = b.rctLast := by
  cases h with
  | same | illegal | busy | notInit | initAgain | fillStart | bitStart | wordStart | armStart
  | ctrl | band => simp
  | intsts w => simp +contextual

/-- Settles O25: every access answers, by one of the effects, each of which has that frame. -/
theorem everyAccessCompletesAndLeavesTheRest : Obligations.EveryAccessCompletesAndLeavesTheRest := by
  intro i s
  obtain ⟨t, ht, heffect, hanswer⟩ := exec_accessTo i s
  refine ⟨t, ht, ?_⟩
  rw [hanswer]
  exact ⟨rfl, rfl, rfl, rfl, rfl, rfl, heffect.frame⟩

end Sys2Proof.Machine
end

section
/-! The HOST software's own variables: which events change them, and how (44_host_protocol.md R190 to
R195); host memory stays canonical. -/

namespace Sys2Proof.Machine

theorem AccessTo.sw_eq {s t : State} (h : AccessTo s t) : t.sw = s.sw := by
  rw [h.2, answer_sw]

/-- An access of the HOST software leaves its variables to the continuation. -/
theorem hostAccess_sw {i : Instr} {k : Word → HostSw → HostSw} {s t : State}
    (h : hostAccess i k s = .next t) : ∃ w, t.sw = k w s.sw := by
  obtain ⟨u, hu, haccess⟩ := exec_accessTo i s
  simp only [hostAccess, hu] at h
  cases h
  exact ⟨u.resp.value, by rw [haccess.sw_eq]⟩

/-- Only the HOST software's calls and steps change its variables. -/
theorem takeEvent_sw_eq {e : Event} {s t : State} (h : takeEvent e s = .next t)
    (hcall : ∀ c, e ≠ .call c) (hprogram : e ≠ .program) : t.sw = s.sw := by
  rcases takeEvent_cases h with
    ⟨u, sw, -, rfl, ⟨w, rfl⟩ | ⟨a, rfl⟩ | ⟨c, rfl⟩ | rfl⟩ | ⟨d, -, hseq⟩ | ⟨-, rfl⟩ |
    ⟨-, hacc⟩ | ⟨-, rfl⟩
  · obtain ⟨v, hv, hvaccess⟩ := hostStep_accessTo w s
    exact (Host.Outcome.next.inj (hv.symm.trans h)) ▸ hvaccess.sw_eq
  · obtain ⟨v, hv, hvaccess⟩ := memStep_accessTo a s
    exact (Host.Outcome.next.inj (hv.symm.trans h)) ▸ hvaccess.sw_eq
  · exact absurd rfl (hcall c)
  · exact absurd rfl hprogram
  · obtain ⟨-, ⟨-, ht⟩ | ⟨-, -, ht⟩⟩ := seqStep_cases hseq <;> rw [ht]
  · rcases dispStep_cases s with ⟨-, hd⟩ | ⟨-, -, hd⟩ | ⟨-, hd⟩ <;> rw [hd]
  · rw [hacc]
  · rfl

theorem HostSw.call_mem (c : HostCall) (sw : HostSw) : (sw.call c).mem = sw.mem := by
  unfold HostSw.call
  split
  · rfl
  · split
    · split <;> rfl
    · rfl

theorem HostSw.afterStatus_mem (w : Word) (sw : HostSw) : (sw.afterStatus w).mem = sw.mem := by
  unfold HostSw.afterStatus
  split <;> rfl

theorem HostSw.afterWait_mem (here again next : HostPc) (w : Word) (sw : HostSw) :
    (sw.afterWait here again next w).mem = sw.mem := by
  unfold HostSw.afterWait
  split_ifs <;> rfl

/-- The HOST software writes memory where it reads OUT words only (44_host_protocol.md R192). -/
theorem programStep_mem {s t : State} (h : programStep s = .next t) :
    t.sw.mem = s.sw.mem ∨ ∃ w, t.sw = s.sw.afterOut w := by
  unfold programStep at h
  cases hpc : s.sw.pc <;> rw [hpc] at h
  case idle =>
    cases h
    exact .inl rfl
  all_goals obtain ⟨w, hw⟩ := hostAccess_sw h
  case pollRead => exact .inr ⟨w, hw⟩
  all_goals refine .inl ((congrArg HostSw.mem hw).trans ?_)
  case pollStatus => exact HostSw.afterStatus_mem w s.sw
  case pollInitWait | pollHarvestWait | gwWait => exact HostSw.afterWait_mem _ _ _ w s.sw
  case pollInit | pollHarvest | gwIssue | gwRead => rfl

/-- Every event keeps host memory canonical. -/
theorem takeEvent_mem_wf {e : Event} {s t : State} (hs : s.sw.mem.wf = true)
    (h : takeEvent e s = .next t) : t.sw.mem.wf = true := by
  by_cases hcall : ∃ c, e = .call c
  · obtain ⟨c, rfl⟩ := hcall
    cases h
    exact (HostSw.call_mem c s.sw).symm ▸ hs
  by_cases hprogram : e = .program
  · subst hprogram
    rcases programStep_mem h with hmem | ⟨w, hsw⟩
    · rwa [hmem]
    · rw [hsw]
      exact HostSw.wf_afterOut w s.sw hs
  · rwa [takeEvent_sw_eq h (not_exists.1 hcall) hprogram]

/-- Settles O39: a step takes one event, on a state with the same memory. -/
theorem hostMemoryStaysCanonical : Obligations.HostMemoryStaysCanonical := by
  intro s t hs h
  obtain ⟨e, s', he, -, -, -, -, hsw, -⟩ := step_cases h
  exact takeEvent_mem_wf (hsw ▸ hs) he

end Sys2Proof.Machine
end

section
/-! The copy of an Output Block to host memory: bytes of a word, runs of bytes in memory, and what
reading an OUT word makes the poll do (20_memory.md R65; 44_host_protocol.md R192, R193). -/

namespace Sys2Proof.Machine

/-- Byte j of a word as a number (20_memory.md R65). -/
theorem wordByte_eq (w : Word) (j : Nat) : wordByte w j = BitVec.ofNat 8 (w.toNat / 256 ^ j) := by
  apply BitVec.eq_of_toNat_eq
  rw [wordByte, BitVec.extractLsb'_toNat, Nat.shiftRight_eq_div_pow, Nat.pow_mul, BitVec.toNat_ofNat]

theorem wordBytes_getElem (w : Word) {j : Nat} (hj : j < 4) :
    (wordBytes w)[j]'hj = BitVec.ofNat 8 (w.toNat / 256 ^ j) := by
  rw [← wordByte_eq]
  interval_cases j <;> rfl

/-- A byte of a run just written. -/
theorem Memory.read_writeBytes_add (m : Memory) (a : Nat) {vs : List Byte} {j : Nat}
    (hj : j < vs.length) : (m.writeBytes a vs).read (a + j) = some vs[j] := by
  rw [Memory.read_writeBytes, dif_pos (by omega)]
  simp only [Nat.add_sub_cancel_left]

/-- A byte outside a run just written. -/
theorem Memory.read_writeBytes_outside (m : Memory) {a x : Nat} {vs : List Byte}
    (hx : x < a ∨ a + vs.length ≤ x) : (m.writeBytes a vs).read x = m.read x := by
  rw [Memory.read_writeBytes, dif_neg (by omega)]

/-- The temporary block holds the word's bytes at 4 k and is otherwise as it was. -/
theorem tmpPut_getElem (tmp : Vector Byte 32) (k : BitVec 3) (w : Word) {i : Nat} (hi : i < 32) :
    (tmpPut tmp k w)[i] =
      if 4 * k.toNat ≤ i ∧ i < 4 * k.toNat + 4 then
        BitVec.ofNat 8 (w.toNat / 256 ^ (i - 4 * k.toNat))
      else tmp[i] := by
  simp only [tmpPut, Vector.getElem_setIfInBounds, ← wordByte_eq]
  by_cases hin : 4 * k.toNat ≤ i ∧ i < 4 * k.toNat + 4
  · rw [if_pos hin]
    obtain ⟨j, rfl⟩ := Nat.exists_eq_add_of_le hin.1
    have hj : j < 4 := by omega
    rw [Nat.add_sub_cancel_left]
    interval_cases j <;> simp
  · rw [if_neg hin, if_neg (by omega), if_neg (by omega), if_neg (by omega), if_neg (by omega)]

/-- Host memory once an OUT word of a whole block has been copied. -/
def HostSw.memWithWord (w : Word) (sw : HostSw) : Memory :=
  sw.mem.writeBytes (sw.dest + sw.off + 4 * sw.k.toNat) (wordBytes w)

theorem HostSw.wholeBlock_iff (sw : HostSw) : sw.wholeBlock = true ↔ sw.off + 32 ≤ sw.len := by
  rw [HostSw.wholeBlock, decide_eq_true_eq]
  omega

theorem HostSw.putWord_of_whole {sw : HostSw} (h : sw.off + 32 ≤ sw.len) (w : Word) :
    sw.putWord w = { sw with mem := sw.memWithWord w } :=
  if_pos (sw.wholeBlock_iff.2 h)

theorem HostSw.putWord_of_partial {sw : HostSw} (h : sw.len < sw.off + 32) (w : Word) :
    sw.putWord w = { sw with tmp := tmpPut sw.tmp sw.k w } :=
  if_neg (mt sw.wholeBlock_iff.1 (by omega))

/-- Before the eighth word only the word is put in its place and `k` advances. -/
theorem HostSw.afterOut_of_ne {sw : HostSw} (hk : sw.k ≠ 7) (w : Word) :
    sw.afterOut w = { sw.putWord w with k := sw.k + 1 } :=
  if_neg hk

/-- The eighth word of a whole block with more bytes to come. -/
theorem HostSw.afterOut_more {sw : HostSw} (hk : sw.k = 7) (h : sw.off + 32 < sw.len) (w : Word) :
    sw.afterOut w =
      { sw with mem := sw.memWithWord w, off := sw.off + 32, k := 0, pc := .pollHarvest } := by
  rw [HostSw.afterOut, if_pos hk, HostSw.putWord_of_whole (by omega), HostSw.blockDone,
    if_pos ((HostSw.wholeBlock_iff _).2 (by simpa using h.le)), if_neg (by simpa using h.ne)]

/-- The eighth word of a whole block that is the last. -/
theorem HostSw.afterOut_last {sw : HostSw} (hk : sw.k = 7) (h : sw.off + 32 = sw.len) (w : Word) :
    sw.afterOut w = { sw with mem := sw.memWithWord w, off := sw.off + 32 }.finishPoll := by
  rw [HostSw.afterOut, if_pos hk, HostSw.putWord_of_whole h.le, HostSw.blockDone,
    if_pos ((HostSw.wholeBlock_iff _).2 (by simpa using h.le)), if_pos (by simpa using h)]

/-- The eighth word of a partial block: the remainder is copied (entry 17). -/
theorem HostSw.afterOut_remainder {sw : HostSw} (hk : sw.k = 7) (h : sw.len < sw.off + 32)
    (w : Word) :
    sw.afterOut w =
      { sw with
        tmp := tmpPut sw.tmp sw.k w
        mem := sw.mem.writeBytes (sw.dest + sw.off)
          ((tmpPut sw.tmp sw.k w).toList.take (sw.len - sw.off))
        off := sw.len }.finishPoll := by
  rw [HostSw.afterOut, if_pos hk, HostSw.putWord_of_partial h, HostSw.blockDone,
    if_neg (mt (HostSw.wholeBlock_iff _).1 (by simpa using h))]

/-- In a whole block memory takes the word's bytes, whichever word it is. -/
theorem HostSw.afterOut_mem_of_whole {sw : HostSw} (h : sw.off + 32 ≤ sw.len) (w : Word) :
    (sw.afterOut w).mem = sw.memWithWord w := by
  by_cases hk : sw.k = 7
  · rcases h.lt_or_eq with hlt | heq
    · rw [HostSw.afterOut_more hk hlt]
    · rw [HostSw.afterOut_last hk heq, finishPoll_mem]
  · rw [HostSw.afterOut_of_ne hk, HostSw.putWord_of_whole h]

/-- In a partial block the temporary block takes them. -/
theorem HostSw.afterOut_tmp_of_partial {sw : HostSw} (h : sw.len < sw.off + 32) (w : Word) :
    (sw.afterOut w).tmp = tmpPut sw.tmp sw.k w := by
  by_cases hk : sw.k = 7
  · rw [HostSw.afterOut_remainder hk h, finishPoll_tmp]
  · rw [HostSw.afterOut_of_ne hk, HostSw.putWord_of_partial h]

/-- The poll's read of OUTk: BCSH and the accelerator stay, and the software goes on with the word
(44_host_protocol.md R192). -/
theorem takeEvent_program_of_pollRead {s : State} (h : s.sw.pc = .pollRead) :
    ∃ t, takeEvent .program s = .next t ∧ t.b = s.b ∧ t.acc = s.acc ∧
      t.sw = s.sw.afterOut (blockWord s.b.out s.sw.k) := by
  simp only [takeEvent, programStep, h]
  exact ⟨_, rfl, rfl, rfl, rfl⟩

/-- `k` counts up to 7. -/
theorem outIndex_succ {k : BitVec 3} (h : k.toNat < 7) : k ≠ 7 ∧ (k + 1).toNat = k.toNat + 1 := by
  constructor
  · rintro rfl
    exact absurd h (by decide)
  · bv_omega

/-- Settles O59: memory takes the word's four bytes whatever `k` is; where the poll goes then is one
of three cases. -/
theorem pollCopiesAWholeBlockWordByWord : Obligations.PollCopiesAWholeBlockWordByWord := by
  intro s hpc hwhole
  obtain ⟨t, ht, hb, hacc, hsw⟩ := takeEvent_program_of_pollRead hpc
  have hmem : t.sw.mem = s.sw.memWithWord (blockWord s.b.out s.sw.k) := by
    rw [hsw, HostSw.afterOut_mem_of_whole hwhole]
  refine ⟨t, ht, fun j hj => ?_, fun a ha => ?_, hb, hacc, fun hk => ?_, fun hk hmore => ?_,
    fun hk hlast => ?_⟩
  · rw [hmem, HostSw.memWithWord, Memory.read_writeBytes_add _ _ hj, wordBytes_getElem _ hj,
      blockWord]
  · rw [hmem, HostSw.memWithWord, Memory.read_writeBytes_outside _ ha]
  · obtain ⟨hne, hsucc⟩ := outIndex_succ hk
    rw [hsw, HostSw.afterOut_of_ne hne, HostSw.putWord_of_whole hwhole]
    exact ⟨hpc, hsucc, rfl⟩
  · rw [hsw, HostSw.afterOut_more (BitVec.eq_of_toNat_eq hk) hmore]
    exact ⟨rfl, rfl⟩
  · rw [hsw, HostSw.afterOut_last (BitVec.eq_of_toNat_eq hk) hlast]
    exact ⟨rfl, rfl, rfl⟩

/-- Settles O60: the temporary block takes the word's four bytes whatever `k` is; memory changes with
the eighth word only, by the run of the remaining bytes. -/
theorem pollCopiesOnlyTheRemainder : Obligations.PollCopiesOnlyTheRemainder := by
  intro s hpc hoff hpartial
  obtain ⟨t, ht, hb, hacc, hsw⟩ := takeEvent_program_of_pollRead hpc
  have htmp : t.sw.tmp = tmpPut s.sw.tmp s.sw.k (blockWord s.b.out s.sw.k) := by
    rw [hsw, HostSw.afterOut_tmp_of_partial hpartial]
  refine ⟨t, ht, hb, hacc, fun i hi => ?_, fun hk => ?_, fun hk => ?_⟩
  · simp only [htmp, tmpPut_getElem _ _ _ hi, blockWord]
  · obtain ⟨hne, hsucc⟩ := outIndex_succ hk
    rw [hsw, HostSw.afterOut_of_ne hne, HostSw.putWord_of_partial hpartial]
    exact ⟨rfl, hpc, hsucc, rfl, rfl, rfl⟩
  · have hmem : t.sw.mem = s.sw.mem.writeBytes (s.sw.dest + s.sw.off)
        (t.sw.tmp.toList.take (s.sw.len - s.sw.off)) := by
      rw [htmp, hsw, HostSw.afterOut_remainder hk hpartial, finishPoll_mem]
    have hlength : (t.sw.tmp.toList.take (s.sw.len - s.sw.off)).length = s.sw.len - s.sw.off := by
      rw [List.length_take, Vector.length_toList]
      omega
    refine ⟨fun i hi hrest => ?_, fun a ha => ?_, ?_⟩
    · rw [hmem, Memory.read_writeBytes_add _ _ (by rwa [hlength]), List.getElem_take,
        Vector.getElem_toList]
    · rw [hmem, Memory.read_writeBytes_outside _ (by omega)]
    · rw [hsw, HostSw.afterOut_remainder hk hpartial]
      exact ⟨rfl, rfl, rfl⟩

end Sys2Proof.Machine
end

section
/-! A command while SEQ is at work (45_register_access.md R201). -/

namespace Sys2Proof.Machine

theorem issue_of_busy {b : Bcsh} (h : b.state ≠ .idle) (n : Bool) (f : Bcsh → Bcsh) :
    b.issue n f = b.cmdError .busy := by
  rcases issue_cases n f b with ⟨-, e⟩ | ⟨hidle, -⟩ | ⟨hidle, -⟩
  · exact e
  · exact absurd hidle h
  · exact absurd hidle h

/-- A write of CMD with a legal command word is that command (45_register_access.md R201). -/
theorem exec_wrCmd_of_decodeOpcode {w : Word} {o : Opcode} (h : decodeOpcode w = some o)
    (s : State) : exec (.wrCmd w) s = exec (opcodeInstr o) s := by
  rw [exec_wrCmd, h, Option.elim_some]

/-- Every command but NOP is rejected while STATE is not IDLE (60_exceptions.md R234). -/
theorem exec_opcodeInstr_of_busy {s : State} (h : s.b.state ≠ .idle) {o : Opcode} (ho : o ≠ .nop) :
    exec (opcodeInstr o) s = .next (s.answer .done (s.b.cmdError .busy)) := by
  have rejected (n : Bool) (f : Bcsh → Bcsh) :
      s.answerWrite (Bcsh.issue n f) = s.answer .done (s.b.cmdError .busy) := by
    rw [State.answerWrite, issue_of_busy h]
  cases o with
  | nop => exact absurd rfl ho
  | init | extractBit | extractWord | harvest | getWord => exact congrArg _ (rejected _ _)

/-- Settles O10: each of the ten instructions is one of the five commands. -/
theorem commandWhileBusyIsRejected : Obligations.CommandWhileBusyIsRejected := by
  intro s i hbusy hi
  obtain ⟨o, ho, hexec⟩ : ∃ o, o ≠ .nop ∧ exec i s = exec (opcodeInstr o) s := by
    simp only [List.mem_cons, List.not_mem_nil, or_false] at hi
    rcases hi with rfl | rfl | rfl | rfl | rfl | rfl | rfl | rfl | rfl | rfl
    · exact ⟨.init, nofun, rfl⟩
    · exact ⟨.extractBit, nofun, rfl⟩
    · exact ⟨.extractWord, nofun, rfl⟩
    · exact ⟨.harvest, nofun, rfl⟩
    · exact ⟨.getWord, nofun, rfl⟩
    · exact ⟨.init, nofun, exec_wrCmd_of_decodeOpcode (by decide) s⟩
    · exact ⟨.extractBit, nofun, exec_wrCmd_of_decodeOpcode (by decide) s⟩
    · exact ⟨.extractWord, nofun, exec_wrCmd_of_decodeOpcode (by decide) s⟩
    · exact ⟨.harvest, nofun, exec_wrCmd_of_decodeOpcode (by decide) s⟩
    · exact ⟨.getWord, nofun, exec_wrCmd_of_decodeOpcode (by decide) s⟩
  rw [hexec, exec_opcodeInstr_of_busy hbusy ho]
  rfl

end Sys2Proof.Machine
end

section
/-! The encoder and the decoder undo each other, register by register and field by field
(30_encoding.md R81 to R88). -/

namespace Sys2Proof.Machine

/-- Three fields that fill a word, side by side, are the word. -/
theorem append_extractLsb'_three {n m k : Nat} (x : BitVec (n + m + k)) :
    x.extractLsb' (k + m) n ++ x.extractLsb' k m ++ x.extractLsb' 0 k = x := by
  rw [BitVec.extractLsb'_append_extractLsb'_eq_extractLsb' rfl,
    BitVec.extractLsb'_append_extractLsb'_eq_extractLsb' (Nat.zero_add k).symm,
    BitVec.extractLsb'_eq_self]

theorem extractLsb'_one_eq_ofBool {n : Nat} (x : BitVec n) (i : Nat) :
    x.extractLsb' i 1 = BitVec.ofBool (x.getLsbD i) := by
  ext j hj
  obtain rfl : j = 0 := by omega
  simp

/-- The low two bits of an offset are 00 in every row of R88. -/
theorem regOff_aligned (r : Reg) : (regOff r).extractLsb' 0 2 = 0#2 := by
  cases r with
  | out k => exact BitVec.extractLsb'_append_eq_right
  | win i => exact BitVec.extractLsb'_append_eq_right
  | _ => rfl

theorem decodeReg_regOff (r : Reg) : decodeReg (regOff r) = some r := by
  cases r with
  | out k => revert k; decide
  | win i => revert i; decide
  | _ => rfl

/-- An aligned offset that names a register is that register's offset: the index of a window slot or
an output word stands between the bits R88 fixes. -/
theorem regOff_of_decodeReg {off : BitVec 8} {r : Reg} (hal : off.extractLsb' 0 2 = 0#2)
    (h : decodeReg off = some r) : regOff r = off := by
  unfold decodeReg at h
  split_ifs at h with hwin hout
  · cases h
    have htop : off.extractLsb' 7 1 = 1#1 := by rw [extractLsb'_one_eq_ofBool, hwin]; rfl
    rw [regOff, ← htop, ← hal]
    exact append_extractLsb'_three (n := 1) (m := 5) (k := 2) off
  · cases h
    rw [regOff, ← hout, ← hal]
    exact append_extractLsb'_three (n := 3) (m := 3) (k := 2) off
  · split at h
    case h_13 => cases h
    all_goals
      cases h
      exact (BitVec.eq_of_toNat_eq ‹_›).symm

theorem adSize_append (size : BitVec 2) (w : BitVec 1) (off : BitVec 8) :
    adSize (size ++ w ++ off) = size := by
  rw [adSize, BitVec.extractLsb'_append_eq_of_le (by decide)]
  exact BitVec.extractLsb'_append_eq_left

theorem adWrite_append (size : BitVec 2) (w : Bool) (off : BitVec 8) :
    adWrite (size ++ BitVec.ofBool w ++ off) = w := by
  rw [adWrite, BitVec.getLsbD_append, if_neg (by decide), BitVec.getLsbD_append]
  cases w <;> rfl

theorem adOff_append (size : BitVec 2) (w : BitVec 1) (off : BitVec 8) :
    adOff (size ++ w ++ off) = off := BitVec.extractLsb'_append_eq_right

theorem append_adFields (ad : BitVec 11) :
    adSize ad ++ BitVec.ofBool (adWrite ad) ++ adOff ad = ad := by
  rw [adSize, adWrite, adOff, ← extractLsb'_one_eq_ofBool]
  exact append_extractLsb'_three (n := 2) (m := 1) (k := 8) ad

/-- The low two bits of a descriptor are those of its offset. -/
theorem adOff_low (ad : BitVec 11) : (adOff ad).extractLsb' 0 2 = ad.extractLsb' 0 2 := by
  rw [adOff, BitVec.extractLsb'_extractLsb'_of_le (by decide)]

/-- The descriptors the decoder reads: SIZE = 2 and the offset of a register, whose read or write row
it then is (30_encoding.md R87, R88). -/
theorem decodeBus_eq_ok_iff {ad : BitVec 11} {data : Word} {i : Instr} :
    decodeBus ad data = .ok i ↔
      ∃ r, ad = 0b10#2 ++ BitVec.ofBool (adWrite ad) ++ regOff r ∧
        i = if adWrite ad then writeInstr r data else readInstr r := by
  unfold decodeBus
  constructor
  · intro h
    by_cases hsize : adSize ad = 2#2
    case neg => rw [if_pos hsize] at h; cases h
    by_cases hal : ad.extractLsb' 0 2 = 0#2
    case neg => rw [if_neg (not_not.2 hsize), if_pos hal] at h; cases h
    rw [if_neg (not_not.2 hsize), if_neg (not_not.2 hal)] at h
    cases hr : decodeReg (adOff ad) with
    | none => rw [hr] at h; cases h
    | some r =>
      rw [hr] at h
      cases h
      exact ⟨r, by rw [regOff_of_decodeReg ((adOff_low ad).trans hal) hr, ← hsize, append_adFields],
        rfl⟩
  · rintro ⟨r, had, rfl⟩
    have hoff : adOff ad = regOff r := by rw [had, adOff_append]
    have hsize : adSize ad = 2#2 := by rw [had, adSize_append]
    have hal : ad.extractLsb' 0 2 = 0#2 := by rw [← adOff_low, hoff, regOff_aligned]
    rw [if_neg (not_not.2 hsize), if_neg (not_not.2 hal), hoff, decodeReg_regOff]

/-- The access of a register by its descriptor runs the register's row. -/
theorem decode_bus_regOff (w : Bool) (r : Reg) (data : Word) :
    decode (.bus (0b10#2 ++ BitVec.ofBool w ++ regOff r) data) =
      .ok (if w then writeInstr r data else readInstr r) :=
  decodeBus_eq_ok_iff.2 ⟨r, by rw [adWrite_append], by rw [adWrite_append]⟩

theorem decode_readWord (r : Reg) : decode (readWord r) = .ok (readInstr r) :=
  decode_bus_regOff false r 0#32

theorem decode_writeWord (r : Reg) (w : Word) : decode (writeWord r w) = .ok (writeInstr r w) :=
  decode_bus_regOff true r w

/-- The row of a register is encoded as the access of it, a read's data word as 0. -/
theorem encode_regRow (w : Bool) (r : Reg) (data : Word) :
    encode (if w then writeInstr r data else readInstr r) =
      .bus (0b10#2 ++ BitVec.ofBool w ++ regOff r) (if w then data else 0) := by
  cases w with
  | false => cases r <;> rfl
  | true => cases r <;> rfl

/-- Settles O1: a command word by evaluation, a read or a write row by its register. -/
theorem decodingAnEncodedInstructionGivesItBack :
    Obligations.DecodingAnEncodedInstructionGivesItBack := by
  intro i
  cases i with
  | nop | init | extractBit | extractWord | harvest | getWord => rfl
  | rdCmd | rdStatus | rdCtrl | rdIntsts | rdResult | rdSeed | rdSum | rdCursor | rdBandLo
  | rdBandHi | rdLasts | rdRejcnt | rdOut | rdWin => exact decode_readWord _
  | wrCmd | wrStatus | wrCtrl | wrIntsts | wrResult | wrSeed | wrSum | wrCursor | wrBandLo
  | wrBandHi | wrLasts | wrRejcnt | wrOut | wrWin => exact decode_writeWord _ _

/-- A command word of 6 or more has a reserved bit set or a reserved OPC (30_encoding.md R84). -/
theorem decodeOpcode_of_six_le {w : Word} (h : 6 ≤ w.toNat) : decodeOpcode w = none := by
  have hopc : (w.extractLsb' 0 3).toNat = w.toNat % 8 := by simp [BitVec.extractLsb'_toNat]
  unfold decodeOpcode
  split_ifs with hrsv
  · rfl
  · have hlt : w.toNat < 8 := by
      have hzero := congrArg BitVec.toNat (not_not.1 hrsv)
      rw [BitVec.extractLsb'_toNat, Nat.shiftRight_eq_div_pow] at hzero
      simp only [BitVec.toNat_ofNat] at hzero
      omega
    rw [hopc]
    rcases (by omega : w.toNat % 8 = 6 ∨ w.toNat % 8 = 7) with h | h
    · rw [h]; rfl
    · rw [h]; rfl

/-- Settles O3: the six words by evaluation; a word that is none of them is 6 or more. -/
theorem commandWordSelectsItsOperation : Obligations.CommandWordSelectsItsOperation := by
  intro w
  split_ifs with h0 h1 h2 h3 h4 h5
  case neg =>
    have hw : 6 ≤ w.toNat := by bv_omega
    simp only [decode, decodeOpcode_of_six_le hw]
  all_goals
    subst w
    rfl

/-- A command word the decoder reads is the encoding of what it reads. -/
theorem encode_of_decode_cmd {w : Word} {i : Instr} (h : decode (.cmd w) = .ok i) :
    encode i = .cmd w := by
  rw [commandWordSelectsItsOperation w] at h
  split_ifs at h
  all_goals
    cases h
    subst w
    rfl

/-- W, bit 8 of a descriptor, on numbers (30_encoding.md R86). -/
theorem adWrite_iff (ad : BitVec 11) : adWrite ad = true ↔ ad.toNat / 256 % 2 = 1 := by
  rw [adWrite, BitVec.getLsbD, Nat.testBit_eq_decide_div_mod_eq, decide_eq_true_iff]

/-- Settles O2: a command word by O3; a descriptor by its register and its W. -/
theorem encodingADecodedWordGivesItBack : Obligations.EncodingADecodedWordGivesItBack := by
  intro h i hi
  cases h with
  | cmd w => exact encode_of_decode_cmd hi
  | bus ad data =>
    obtain ⟨r, had, rfl⟩ := decodeBus_eq_ok_iff.1 hi
    rw [encode_regRow, ← had]
    simp only [adWrite_iff]

/-- Settles O5: the six legal words are encodings, and the three others fail one check each. -/
theorem writtenOutWordsDecode : Obligations.WrittenOutWordsDecode :=
  ⟨decodingAnEncodedInstructionGivesItBack .extractWord, rfl,
    decodingAnEncodedInstructionGivesItBack .rdStatus,
    decodingAnEncodedInstructionGivesItBack (.wrBandHi 0x41A#32),
    decodingAnEncodedInstructionGivesItBack (.rdOut 7#3),
    decodingAnEncodedInstructionGivesItBack (.wrWin 31#5 9#32), rfl, rfl, rfl⟩

end Sys2Proof.Machine
end

section
/-! A command word has one effect in either format (30_encoding.md R80, 45_register_access.md
R201). -/

namespace Sys2Proof.Machine

/-- A command word does what the write of CMD with it does, a legal or an illegal one. -/
theorem takeEvent_cmd (w : Word) (s : State) : takeEvent (.host (.cmd w)) s = exec (.wrCmd w) s := by
  rw [exec_wrCmd]
  simp only [takeEvent, hostStep, decode]
  cases decodeOpcode w with
  | none => rfl
  | some o => rfl

/-- The descriptor 0x500 is the 4-byte write of offset 0 (30_encoding.md R86, R88). -/
theorem decode_writeOfCmd (w : Word) : decode (.bus 0x500#11 w) = .ok (.wrCmd w) :=
  decode_writeWord .cmd w

/-- Settles O9: such a word selects no operation, in either format. -/
theorem illegalCommandWordRaisesIllegal : Obligations.IllegalCommandWordRaisesIllegal := by
  intro s w hw
  have hwrite : exec (.wrCmd w) s = .next (illegalCommand s) := by
    rw [exec_wrCmd, decodeOpcode_of_six_le hw, Option.elim_none]
  exact ⟨hwrite, (takeEvent_cmd w s).trans hwrite⟩

/-- Settles O16: both formats are the write of CMD, which as every access answers a next state. -/
theorem wrCmdDoesWhatItsCommandDoes : Obligations.WrCmdDoesWhatItsCommandDoes := by
  intro s w
  refine ⟨fun i hi => ?_, ?_, ?_⟩
  · rw [← takeEvent_cmd, takeEvent_host_of_decode_ok hi]
  · rw [takeEvent_cmd, takeEvent_host_of_decode_ok (decode_writeOfCmd w)]
  · obtain ⟨t, ht, -⟩ := exec_accessTo (.wrCmd w) s
    exact ⟨t, ht⟩

end Sys2Proof.Machine
end

section
/-! SEQ's step in H_START (43_harvest.md R165). -/

namespace Sys2Proof.Machine

/-- H_START is no sampling state, so the step needs no Sample Source (10_state.md R33). -/
theorem takeEvent_seq_of_hStart {s : State} (h : s.b.state = .hStart) (d : Sample) :
    takeEvent (.seq d) s = hStartStep s := by
  simp only [takeEvent, seqStep, h, SeqState.sampling, Bool.false_and, Bool.false_eq_true, if_false]

theorem hStartStep_of_accIdle {s : State} (h : s.acc.busy = false) :
    hStartStep s =
      .next { s with b := hStartBcsh s.par s.b, acc := s.acc.accept (startEvent s) } := by
  simp only [hStartStep, h, Bool.false_eq_true, if_false]

theorem hStartStep_of_accBusy {s : State} (h : s.acc.busy = true) :
    hStartStep s = .refused .startWhileAccBusy := by
  simp only [hStartStep, h, if_true]

/-- Settles O46: BCSH's side by P_CLEAR_ORDER, and the refusal of I9. -/
theorem startSendsTheSeed : Obligations.StartSendsTheSeed := by
  intro s d hstate
  rw [takeEvent_seq_of_hStart hstate]
  refine ⟨fun hidle horder => ?_, fun hidle horder => ?_, hStartStep_of_accBusy⟩
  · rw [hStartStep_of_accIdle hidle, hStartBcsh, horder]
    rfl
  · rw [hStartStep_of_accIdle hidle, hStartBcsh, horder]
    rfl

end Sys2Proof.Machine
end

section
/-! Who writes the window, SUM and CURSOR (40_bias_corrector.md R112, R116): a SEQ step that fills a
slot or accepts a sample, and the reset. -/

namespace Sys2Proof.Machine

/-- From `b` to `c` the window, SUM and CURSOR are unchanged. -/
structure SameWindow (b c : Bcsh) : Prop where
  win : c.win = b.win
  sum : c.sum = b.sum
  cursor : c.cursor = b.cursor

theorem SameWindow.refl (b : Bcsh) : SameWindow b b := ⟨rfl, rfl, rfl⟩

theorem SameWindow.trans {a b c : Bcsh} (h : SameWindow a b) (k : SameWindow b c) :
    SameWindow a c :=
  ⟨k.win.trans h.win, k.sum.trans h.sum, k.cursor.trans h.cursor⟩

theorem SameWindow.sumExact {b c : Bcsh} (h : SameWindow b c) (hb : b.sumExact) : c.sumExact := by
  rw [Bcsh.sumExact, h.win, h.sum]
  exact hb

theorem AccessEffect.sameWindow {p : Params} {b c : Bcsh} (h : AccessEffect p b c) :
    SameWindow b c := by
  obtain ⟨hwin, hsum, hcursor, -⟩ := h.frame
  exact ⟨hwin, hsum, hcursor⟩

theorem TakenSample.sameWindow {p : Params} {d : Sample} {b c : Bcsh} (h : TakenSample p d b c) :
    SameWindow (evictInsert d b) c := by
  obtain ⟨_, _, _, _, _, rfl, -⟩ := h
  exact ⟨rfl, rfl, rfl⟩

theorem endOfInit_sameWindow (b : Bcsh) : SameWindow b (endOfInit b) := by
  rcases endOfInit_cases b with ⟨-, e⟩ | ⟨-, e⟩ | ⟨-, -, e⟩ <;> rw [e] <;> exact ⟨rfl, rfl, rfl⟩

/-- Where a conditioned bit goes has no bearing on the window. -/
theorem deliver_sameWindow (bit : Bool) (b : Bcsh) : SameWindow b (deliver bit b) := by
  rcases deliver_cases bit b with
    ⟨-, e⟩ | ⟨-, -, e⟩ | ⟨-, -, e⟩ | ⟨-, -, e⟩ | ⟨-, -, e⟩ | ⟨-, e⟩ <;> rw [e]
  · exact ⟨rfl, rfl, rfl⟩
  · exact ⟨rfl, rfl, rfl⟩
  · obtain ⟨hwin, hsum, hcursor⟩ := endOfInit_sameWindow (shiftIn bit b).wordStart
    exact ⟨hwin, hsum, hcursor⟩
  · exact ⟨rfl, rfl, rfl⟩
  · exact ⟨rfl, rfl, rfl⟩
  · exact .refl b

/-- A rejection leaves the window alone; an accepted sample evicts and inserts, whatever becomes of
its bit (40_bias_corrector.md R104, R109). -/
theorem correctorStep_window (p : Params) (d : Sample) (b : Bcsh) :
    (inBand b d = false ∧ SameWindow b (correctorStep p d b)) ∨
    (inBand b d = true ∧ SameWindow (evictInsert d b) (correctorStep p d b)) := by
  rcases correctorStep_cases p d b with ⟨hout, e⟩ | ⟨hout, e⟩ | ⟨hin, c, hc, e⟩
  · exact .inl ⟨hout, e ▸ ⟨rfl, rfl, rfl⟩⟩
  · exact .inl ⟨hout, e ▸ ⟨rfl, rfl, rfl⟩⟩
  · refine .inr ⟨hin, ?_⟩
    rcases e with e | ⟨bit, e⟩ <;> rw [e]
    · exact hc.sameWindow
    · exact hc.sameWindow.trans (deliver_sameWindow bit c)

theorem hStartBcsh_sameWindow (p : Params) (b : Bcsh) : SameWindow b (hStartBcsh p b) := by
  unfold hStartBcsh
  split <;> exact ⟨rfl, rfl, rfl⟩

/-- SEQ writes the window in a fill step and in an accepted-sample step, and in no other. -/
theorem SeqEffect.window_cases {p : Params} {accOut : Block} {d : Sample} {b c : Bcsh}
    (h : SeqEffect p accOut d b c) :
    (b.state ≠ .initFill ∧ (b.state.sampling = true → inBand b d = false) ∧ SameWindow b c) ∨
    (b.state = .initFill ∧ c.win = (fillPut d b).win ∧ c.sum = (fillPut d b).sum) ∨
    (b.state.sampling = true ∧ b.state ≠ .initFill ∧ inBand b d = true ∧
      SameWindow (evictInsert d b) c) := by
  cases h with
  | fill hs =>
    refine .inr (.inl ⟨hs, ?_⟩)
    rcases fillStep_cases d b with ⟨-, e⟩ | ⟨-, e⟩ <;> rw [e] <;> exact ⟨rfl, rfl⟩
  | corrector hs =>
    have hstate : b.state.sampling = true ∧ b.state ≠ .initFill := by
      rcases hs with hs | hs | hs | hs <;> simp [hs, SeqState.sampling]
    rcases correctorStep_window p d b with ⟨hout, hsame⟩ | ⟨hin, hsame⟩
    · exact .inl ⟨hstate.2, fun _ => hout, hsame⟩
    · exact .inr (.inr ⟨hstate.1, hstate.2, hin, hsame⟩)
  | start hs =>
    exact .inl ⟨by simp [hs], by simp [hs, SeqState.sampling], hStartBcsh_sameWindow p b⟩
  | idle hs | arm hs | clear hs | held hs | go hs | read hs =>
    exact .inl ⟨by simp [hs], by simp [hs, SeqState.sampling], ⟨rfl, rfl, rfl⟩⟩

/-- Both ways SEQ writes a slot replace its value in SUM too (40_bias_corrector.md R112). -/
theorem SeqEffect.sumExact {p : Params} {accOut : Block} {d : Sample} {b c : Bcsh}
    (h : SeqEffect p accOut d b c) (hb : b.sumExact) : c.sumExact := by
  rcases h.window_cases with ⟨-, -, hsame⟩ | ⟨-, hwin, hsum⟩ | ⟨-, -, -, hsame⟩
  · exact hsame.sumExact hb
  · rw [Bcsh.sumExact, hwin, hsum]
    exact sumReplace_toNat b.win (fillSlot b) d b.sum hb
  · exact hsame.sumExact (sumReplace_toNat b.win b.cursor d b.sum hb)

/-- Settles O33: an access and DISP leave window and SUM alone, and SEQ keeps SUM exact. -/
theorem sumStaysExact : Obligations.SumStaysExact :=
  fun _ _ hs h => step_keeps (P := Bcsh.sumExact) reset_sumExact
    (fun ha hb => ha.sameWindow.sumExact hb) SeqEffect.sumExact (fun hb => ⟨hb, hb⟩) hs h

/-- Settles O24, by the effects of an event on BCSH. -/
theorem onlySeqWritesTheWindow : Obligations.OnlySeqWritesTheWindow := by
  intro e s t h hseq hreset
  have heff := takeEvent_eventEffect h
  generalize t.b = c at heff ⊢
  cases heff with
  | none | prngServed | aesServed => exact ⟨rfl, rfl, rfl⟩
  | access ha => exact ⟨ha.sameWindow.win, ha.sameWindow.sum, ha.sameWindow.cursor⟩
  | @seq _ d _ _ => exact absurd rfl (hseq d)
  | reset => exact absurd rfl hreset

end Sys2Proof.Machine
end

section
/-! SEQ's step in a state that tests the band, and what a rejected sample does (40_bias_corrector.md
R103 to R105, R114). -/

namespace Sys2Proof.Machine

/-- In a state that tests the band SEQ's step is the corrector's (10_state.md R33). -/
theorem takeEvent_seq_of_testsBand {s : State} (hadc : s.adcConfigured = true)
    (hs : s.b.state ∈ [SeqState.initDiscard, .xbit, .xword, .hSeed]) (d : Sample) :
    takeEvent (.seq d) s = .next { s with b := correctorStep s.par d s.b } := by
  simp only [List.mem_cons, List.not_mem_nil, or_false] at hs
  rcases hs with hs | hs | hs | hs <;>
    simp only [takeEvent, seqStep, hs, SeqState.sampling, hadc, Bool.not_true, Bool.and_false,
      Bool.false_eq_true, if_false]

theorem inBand_eq_false_iff (b : Bcsh) (d : Sample) :
    inBand b d = false ↔ d.toNat < b.bandLo.toNat ∨ b.bandHi.toNat < d.toNat := by
  rw [← Bool.not_eq_true, inBand_iff]
  omega

theorem correctorStep_of_inBand {b : Bcsh} {d : Sample} (h : inBand b d = true) (p : Params) :
    correctorStep p d b = acceptSample p d b := by
  rw [correctorStep, if_pos h]

theorem correctorStep_of_outOfBand {b : Bcsh} {d : Sample} (h : inBand b d = false) (p : Params) :
    correctorStep p d b = reject p b := by
  rw [correctorStep, h, if_neg Bool.false_ne_true]

theorem retryLimitReached_iff (p : Params) (r : Word) :
    retryLimitReached p r = true ↔ ∃ l, p.retryLimit = some l ∧ l ≤ r.toNat := by
  unfold retryLimitReached
  cases p.retryLimit <;> simp

/-- A rejection short of the bound, or with none, is only counted (40_bias_corrector.md R104). -/
theorem reject_of_below {p : Params} {b : Bcsh}
    (h : ∀ l, p.retryLimit = some l → (satInc32 b.retry).toNat < l) :
    reject p b = countRejection b := by
  refine if_neg fun hreached => ?_
  obtain ⟨l, hl, hle⟩ := (retryLimitReached_iff p _).1 hreached
  exact absurd (h l hl) (Nat.not_lt.2 hle)

/-- The rejection that reaches the bound aborts (40_bias_corrector.md R105). -/
theorem reject_of_reached {p : Params} {b : Bcsh} {l : Nat} (hl : p.retryLimit = some l)
    (h : l ≤ (satInc32 b.retry).toNat) :
    reject p b = (countRejection b).abort .retryLimit :=
  if_pos ((retryLimitReached_iff p _).2 ⟨l, hl, h⟩)

theorem satInc32_eq (x : Word) : satInc32 x = BitVec.ofNat 32 (min (x.toNat + 1) 0xFFFFFFFF) := by
  rw [← satInc32_toNat, BitVec.ofNat_toNat, BitVec.setWidth_eq]

theorem countRejection_eq (b : Bcsh) :
    countRejection b =
      { b with
        rejcnt := BitVec.ofNat 32 (min (b.rejcnt.toNat + 1) 0xFFFFFFFF)
        retry := BitVec.ofNat 32 (min (b.retry.toNat + 1) 0xFFFFFFFF) } := by
  rw [countRejection, satInc32_eq, satInc32_eq]

/-- Settles O26: the step is the corrector's, which rejects and only counts. -/
theorem outOfBandSampleOnlyCounts : Obligations.OutOfBandSampleOnlyCounts := by
  intro s d hadc hs hout hbelow
  rw [takeEvent_seq_of_testsBand hadc hs,
    correctorStep_of_outOfBand ((inBand_eq_false_iff s.b d).2 hout),
    reject_of_below (by rwa [satInc32_toNat]), countRejection_eq]

/-- Settles O27: the step is the corrector's, which rejects and aborts with the counters as they then
stand. -/
theorem retryLimitAbortsTheCommand : Obligations.RetryLimitAbortsTheCommand := by
  intro s d l hadc hs hout hl hreached
  rw [takeEvent_seq_of_testsBand hadc hs,
    correctorStep_of_outOfBand ((inBand_eq_false_iff s.b d).2 hout),
    reject_of_reached hl (by rwa [satInc32_toNat]), countRejection_eq]
  rfl

/-- No sample lies in an empty band (40_bias_corrector.md R114). -/
theorem inBand_of_empty {b : Bcsh} (h : b.bandHi.toNat < b.bandLo.toNat) (d : Sample) :
    inBand b d = false :=
  (inBand_eq_false_iff b d).2 (by omega)

/-- Settles O32, by induction on the draws: each is rejected and counted, and what makes the next one
be rejected is left as it was. -/
theorem emptyBandNeverCompletes : Obligations.EmptyBandNeverCompletes := by
  intro ds
  induction ds with
  | nil =>
    intro s _ _ _ _
    have hlt := s.b.rejcnt.isLt
    refine ⟨s, rfl, rfl, rfl, rfl, rfl, rfl, ?_⟩
    rw [List.length_nil]
    omega
  | cons d ds ih =>
    intro s hadc hs hempty hnone
    have hstep : takeEvent (.seq d) s = .next { s with b := countRejection s.b } := by
      rw [takeEvent_seq_of_testsBand hadc hs, correctorStep_of_outOfBand (inBand_of_empty hempty d),
        reject_of_below (by simp [hnone])]
    obtain ⟨t, ht, hstate, hwin, hsum, hcursor, hresult, hrej⟩ :=
      ih { s with b := countRejection s.b } hadc hs hempty hnone
    refine ⟨t, ?_, hstate, hwin, hsum, hcursor, hresult, ?_⟩
    · rw [List.map_cons, takeEvents, hstep]
      exact ht
    · rw [hrej, countRejection_rejcnt, satInc32_toNat, List.length_cons]
      omega

end Sys2Proof.Machine
end

section
/-! The window over a run of events after initialization: first in, first out (40_bias_corrector.md
R109, R111). -/

namespace Sys2Proof.Machine

theorem State.accepts_seq_iff (s : State) (d : Sample) :
    s.accepts (.seq d) = true ↔
      s.b.state.sampling = true ∧ s.b.state ≠ .initFill ∧ inBand s.b d = true := by
  simp [State.accepts, and_assoc]

/-- An accepted sample is taken in a state that tests the band. -/
theorem State.testsBand_of_accepts {s : State} {d : Sample} (h : s.accepts (.seq d) = true) :
    s.b.state ∈ [SeqState.initDiscard, .xbit, .xword, .hSeed] := by
  obtain ⟨hsampling, hfill, -⟩ := (s.accepts_seq_iff d).1 h
  cases hs : s.b.state <;> simp_all [SeqState.sampling]

theorem takeEvents_cons_of_next {e : Event} {s u : State} (h : takeEvent e s = .next u)
    (es : List Event) : takeEvents (e :: es) s = takeEvents es u := by
  simp only [takeEvents, h]

theorem takeEvents_cons_eq_next {e : Event} {es : List Event} {s t : State}
    (h : takeEvents (e :: es) s = .next t) :
    ∃ u, takeEvent e s = .next u ∧ takeEvents es u = .next t := by
  cases hu : takeEvent e s with
  | next u => exact ⟨u, rfl, by rwa [takeEvents_cons_of_next hu] at h⟩
  | fault r => simp [takeEvents, hu] at h
  | refused r => simp [takeEvents, hu] at h

theorem acceptedSamples_cons_of_next {e : Event} {s u : State} (h : takeEvent e s = .next u)
    (es : List Event) :
    acceptedSamples (e :: es) s = (s.accepts e).toNat + acceptedSamples es u := by
  simp only [acceptedSamples, h]

/-- No event configures the Sample Source, or takes its configuration away (entry 9). -/
theorem takeEvent_adcConfigured {e : Event} {s t : State} (h : takeEvent e s = .next t) :
    t.adcConfigured = s.adcConfigured := by
  rcases takeEvent_cases h with
    ⟨u, sw, ⟨-, hu⟩, rfl, -⟩ | ⟨d, rfl, hseq⟩ | ⟨rfl, rfl⟩ | ⟨-, hacc⟩ | ⟨rfl, rfl⟩
  · rw [hu]
    rfl
  · rcases (seqStep_cases hseq).2 with ⟨-, e⟩ | ⟨-, -, e⟩ <;> rw [e]
  · rcases dispStep_cases s with ⟨-, e⟩ | ⟨-, -, e⟩ | ⟨-, e⟩ <;> rw [e]
  · rw [hacc]
  · rfl

theorem deliver_state_ne_initFill (bit : Bool) {b : Bcsh} (hb : b.state ≠ .initFill) :
    (deliver bit b).state ≠ .initFill := by
  rcases deliver_cases bit b with
    ⟨-, e⟩ | ⟨-, -, e⟩ | ⟨-, -, e⟩ | ⟨-, -, e⟩ | ⟨-, -, e⟩ | ⟨-, e⟩ <;> rw [e]
  · simp
  · exact hb
  · rcases endOfInit_cases (shiftIn bit b).wordStart with ⟨-, e⟩ | ⟨-, e⟩ | ⟨-, -, e⟩ <;> rw [e]
    · simp
    · simp
    · exact hb
  · simp
  · simp
  · exact hb

theorem SeqEffect.state_ne_initFill {p : Params} {accOut : Block} {d : Sample} {b c : Bcsh}
    (h : SeqEffect p accOut d b c) (hb : b.state ≠ .initFill) : c.state ≠ .initFill := by
  cases h with
  | idle | held => exact hb
  | fill hs => exact absurd hs hb
  | corrector =>
    refine correctorStep_induction (P := fun c => c.state ≠ .initFill) hb (by simp) (fun c hc => ?_)
      (fun bit _ _ hc => deliver_state_ne_initFill bit hc)
    rw [hc.frame.1]
    exact hb
  | start =>
    unfold hStartBcsh
    split <;> simp
  | arm | clear | go | read => simp

/-- The fill is entered by a command only, and by none after initialization (42_init.md R150). -/
theorem AccessEffect.state_ne_initFill {p : Params} {b c : Bcsh} (h : AccessEffect p b c)
    (hd : b.initDone = true) (hb : b.state ≠ .initFill) : c.state ≠ .initFill := by
  cases h with
  | same | illegal | busy | notInit | ctrl | intsts | band => exact hb
  | fillStart _ _ _ hd' => simp [hd] at hd'
  | initAgain | bitStart | wordStart | armStart => simp

/-- Initialization is over for good, up to a reset (10_state.md R24). -/
theorem takeEvent_initialized {e : Event} {s t : State} (h : takeEvent e s = .next t)
    (hreset : e ≠ .reset) (hd : s.b.initDone = true) (hb : s.b.state ≠ .initFill) :
    t.b.initDone = true ∧ t.b.state ≠ .initFill := by
  refine ⟨(takeEvent_stickyKept h hreset).initDone hd, ?_⟩
  have heff := takeEvent_eventEffect h
  generalize t.b = c at heff ⊢
  cases heff with
  | none | prngServed | aesServed => exact hb
  | access ha => exact ha.state_ne_initFill hd hb
  | seq hq => exact hq.state_ne_initFill hb
  | reset => exact absurd rfl hreset

/-- From `b` to `c` the window has taken `n` samples at CURSOR: CURSOR has advanced by `n` modulo 32,
and every slot it has not passed holds what it held. -/
structure WindowAdvanced (n : Nat) (b c : Bcsh) : Prop where
  cursor : c.cursor = b.cursor + BitVec.ofNat 5 n
  slot : ∀ i, (∀ k < n, b.cursor + BitVec.ofNat 5 k ≠ i) → windowSlot c.win i = windowSlot b.win i

theorem SameWindow.windowAdvanced {b c : Bcsh} (h : SameWindow b c) : WindowAdvanced 0 b c where
  cursor := by simp [h.cursor]
  slot _ _ := by rw [h.win]

theorem windowAdvanced_of_evictInsert {d : Sample} {b c : Bcsh}
    (h : SameWindow (evictInsert d b) c) : WindowAdvanced 1 b c where
  cursor := h.cursor
  slot i hi := by
    have hne : b.cursor ≠ i := by simpa using hi 0 Nat.one_pos
    rw [h.win, evictInsert_win, windowSlot_put, if_neg hne]

theorem WindowAdvanced.trans {m n : Nat} {a b c : Bcsh} (h : WindowAdvanced m a b)
    (k : WindowAdvanced n b c) : WindowAdvanced (m + n) a c where
  cursor := by rw [k.cursor, h.cursor, BitVec.ofNat_add, BitVec.add_assoc]
  slot i hi := by
    have hpassed : ∀ j < n, b.cursor + BitVec.ofNat 5 j ≠ i := fun j hj => by
      rw [h.cursor, BitVec.add_assoc, ← BitVec.ofNat_add]
      exact hi (m + j) (by omega)
    rw [k.slot i hpassed, h.slot i fun j hj => hi j (by omega)]

/-- After initialization an event takes one sample into the window if it is an accepted-sample step,
and none otherwise. -/
theorem takeEvent_windowAdvanced {e : Event} {s t : State} (h : takeEvent e s = .next t)
    (hreset : e ≠ .reset) (hb : s.b.state ≠ .initFill) :
    WindowAdvanced (s.accepts e).toNat s.b t.b := by
  by_cases hseq : ∃ d, e = .seq d
  · obtain ⟨d, rfl⟩ := hseq
    rcases (seqStep_cases h).1.window_cases with
      ⟨-, hout, hsame⟩ | ⟨hfill, -⟩ | ⟨hsampling, -, hin, hsame⟩
    · have hno : s.accepts (.seq d) = false := by
        simpa [State.accepts, hb] using hout
      rw [hno]
      exact hsame.windowAdvanced
    · exact absurd hfill hb
    · rw [(s.accepts_seq_iff d).2 ⟨hsampling, hb, hin⟩]
      exact windowAdvanced_of_evictInsert hsame
  · have hno : s.accepts e = false := by
      cases e with
      | seq d => exact absurd ⟨d, rfl⟩ hseq
      | _ => rfl
    obtain ⟨hwin, hsum, hcursor⟩ := onlySeqWritesTheWindow e s t h (not_exists.1 hseq) hreset
    rw [hno]
    exact SameWindow.windowAdvanced ⟨hwin, hsum, hcursor⟩

/-- Over a run of events without a reset the window takes the accepted samples, one slot each. -/
theorem takeEvents_windowAdvanced {es : List Event} {s t : State} (hd : s.b.initDone = true)
    (hb : s.b.state ≠ .initFill) (hreset : Event.reset ∉ es) (h : takeEvents es s = .next t) :
    t.adcConfigured = s.adcConfigured ∧ WindowAdvanced (acceptedSamples es s) s.b t.b := by
  induction es generalizing s with
  | nil =>
    cases h
    exact ⟨rfl, (SameWindow.refl _).windowAdvanced⟩
  | cons e es ih =>
    obtain ⟨u, hu, ht⟩ := takeEvents_cons_eq_next h
    have hne : e ≠ .reset := fun he => hreset (he ▸ List.mem_cons_self)
    obtain ⟨hd', hb'⟩ := takeEvent_initialized hu hne hd hb
    obtain ⟨hadc, hrest⟩ := ih hd' hb' (fun he => hreset (List.mem_cons_of_mem e he)) ht
    rw [acceptedSamples_cons_of_next hu]
    exact ⟨hadc.trans (takeEvent_adcConfigured hu),
      (takeEvent_windowAdvanced hu hne hb).trans hrest⟩

/-- An accepted draw stands in the slot CURSOR named. -/
theorem takeEvent_of_accepts {s : State} {d : Sample} (hadc : s.adcConfigured = true)
    (h : s.accepts (.seq d) = true) :
    ∃ t, takeEvent (.seq d) s = .next t ∧ windowSlot t.b.win s.b.cursor = d := by
  refine ⟨_, takeEvent_seq_of_testsBand hadc (State.testsBand_of_accepts h) d, ?_⟩
  obtain ⟨-, -, hin⟩ := (s.accepts_seq_iff d).1 h
  rcases correctorStep_window s.par d s.b with ⟨hout, -⟩ | ⟨-, hsame⟩
  · simp [hin] at hout
  · rw [hsame.win, evictInsert_win, windowSlot_put, if_pos rfl]

/-- Settles O31: the first event puts `d` in the slot and the at most 31 accepted samples that follow
take the other slots, so the slot comes round exactly with the 32nd. -/
theorem evictionIsFirstInFirstOut : Obligations.EvictionIsFirstInFirstOut := by
  intro s t d es hadc hd haccepts hreset hrun hcount
  obtain ⟨-, hfill, -⟩ := (s.accepts_seq_iff d).1 haccepts
  obtain ⟨u, hu, hslot⟩ := takeEvent_of_accepts hadc haccepts
  rw [takeEvents_cons_of_next hu] at hrun
  rw [acceptedSamples_cons_of_next hu, haccepts, Bool.toNat_true] at hcount ⊢
  have hone := takeEvent_windowAdvanced hu nofun hfill
  rw [haccepts, Bool.toNat_true] at hone
  obtain ⟨hd', hfill'⟩ := takeEvent_initialized hu nofun hd hfill
  obtain ⟨hadc', hrest⟩ := takeEvents_windowAdvanced hd' hfill' hreset hrun
  have hall := hone.trans hrest
  have hkept : windowSlot t.b.win s.b.cursor = windowSlot u.b.win s.b.cursor := by
    refine hrest.slot _ fun k hk => ?_
    rw [hone.cursor]
    bv_omega
  refine ⟨hkept.trans hslot, ?_, fun d' hback haccepts' => ?_⟩
  · rw [hall.cursor]
    bv_omega
  · rw [← hback]
    exact takeEvent_of_accepts ((hadc'.trans (takeEvent_adcConfigured hu)).trans hadc) haccepts'

end Sys2Proof.Machine
end

section
/-! An accepted sample, by what the von Neumann extractor makes of its bit (40_bias_corrector.md R106 to
R110, R115; 41_aggregator_conditioner.md R132 to R137). -/

namespace Sys2Proof.Machine

theorem hasVn_iff (p : Params) : p.hasVn = true ↔ p.cond = .vn ∨ p.cond = .vnRct := by
  unfold Params.hasVn
  cases p.cond <;> simp

theorem hasVn_eq_false_iff (p : Params) : p.hasVn = false ↔ p.cond = .none ∨ p.cond = .rct := by
  unfold Params.hasVn
  cases p.cond <;> simp

/-- BCSH with an accepted sample observed and in the window, its bit not yet conditioned. -/
def insertSample (p : Params) (d : Sample) (b : Bcsh) : Bcsh := evictInsert d (observe p d b)

theorem insertSample_eq (p : Params) (d : Sample) (b : Bcsh) :
    ∃ rc rl h, insertSample p d b =
      { b with
        retry := 0, lasts := d
        win := windowPut b.win b.cursor d
        sum := sumReplace b.sum (windowSlot b.win b.cursor) d
        cursor := b.cursor + 1
        rctCnt := rc, rctLast := rl, hlthIf := h } := by
  obtain ⟨rc, rl, h, e, -⟩ := rctObserve_eq p d { b with retry := 0, lasts := d }
  refine ⟨rc, rl, h, ?_⟩
  rw [insertSample, observe, e]
  rfl

/-- With no repetition-count test at work the sample leaves its unit alone
(41_aggregator_conditioner.md R139). -/
theorem insertSample_of_rct_off {p : Params} {b : Bcsh} (h : (p.hasRct && b.rcten) = false)
    (d : Sample) : insertSample p d b = evictInsert d { b with retry := 0, lasts := d } := by
  rw [insertSample, observe, rctObserve]
  simp [h]

/-- The corrector's bit goes through the conditioner after the sample has entered the window; it is
compared with SUM as it stood before. -/
theorem acceptSample_eq (p : Params) (d : Sample) (b : Bcsh) :
    acceptSample p d b =
      (condBit p (debiasedBit b d) (insertSample p d b)).elim
        (condState p (debiasedBit b d) (insertSample p d b))
        (fun c => deliver c (condState p (debiasedBit b d) (insertSample p d b))) := by
  have hbit : debiasedBit (observe p d b) d = debiasedBit b d := by
    obtain ⟨rc, rl, h, e, -⟩ := rctObserve_eq p d { b with retry := 0, lasts := d }
    rw [observe, e]
    rfl
  rw [acceptSample, hbit]
  show _ = (condBit p _ (evictInsert d (observe p d b))).elim _ _
  cases condBit p (debiasedBit b d) (evictInsert d (observe p d b)) <;> rfl

/-- The extractor looks at VNEN, VNPH and VNB1 only, which the sample has left alone. -/
theorem insertSample_vn (p : Params) (d : Sample) (b : Bcsh) :
    (insertSample p d b).vnen = b.vnen ∧ (insertSample p d b).vnph = b.vnph ∧
      (insertSample p d b).vnb1 = b.vnb1 := by
  obtain ⟨_, _, _, e⟩ := insertSample_eq p d b
  rw [e]
  exact ⟨rfl, rfl, rfl⟩

/-- The first bit of a pair is kept. -/
theorem acceptSample_of_firstBit {p : Params} {b : Bcsh} (hvn : p.hasVn = true)
    (hph : b.vnph = false) (hen : b.vnen = true) (d : Sample) :
    acceptSample p d b =
      { insertSample p d b with vnb1 := debiasedBit b d, vnph := true } := by
  obtain ⟨hen', hph', -⟩ := insertSample_vn p d b
  simp [acceptSample_eq, condBit, condState, hvn, hph', hen', hph, hen]

/-- An equal second bit closes the pair and goes no further. -/
theorem acceptSample_of_equalBit {p : Params} {b : Bcsh} {d : Sample} (hvn : p.hasVn = true)
    (hph : b.vnph = true) (hbit : b.vnb1 = debiasedBit b d) :
    acceptSample p d b = { insertSample p d b with vnph := false } := by
  obtain ⟨-, hph', hb1⟩ := insertSample_vn p d b
  simp [acceptSample_eq, condBit, condState, hvn, hph', hb1, hph, hbit]

/-- An unequal second bit closes the pair, and the first is delivered. -/
theorem acceptSample_of_unequalBit {p : Params} {b : Bcsh} {d : Sample} (hvn : p.hasVn = true)
    (hph : b.vnph = true) (hbit : b.vnb1 ≠ debiasedBit b d) :
    acceptSample p d b = deliver b.vnb1 { insertSample p d b with vnph := false } := by
  obtain ⟨-, hph', hb1⟩ := insertSample_vn p d b
  simp [acceptSample_eq, condBit, condState, hvn, hph', hb1, hph, hbit]

/-- No von Neumann extractor is at work: it is absent, or disabled with no pair open. -/
def VnOff (p : Params) (b : Bcsh) : Prop := p.hasVn = false ∨ b.vnph = false ∧ b.vnen = false

theorem vnOff_iff (p : Params) (b : Bcsh) :
    VnOff p b ↔ p.cond = .none ∨ p.cond = .rct ∨ b.vnph = false ∧ b.vnen = false := by
  rw [VnOff, hasVn_eq_false_iff, or_assoc]

/-- Without the extractor the bit is delivered as it is. -/
theorem acceptSample_of_vnOff {p : Params} {b : Bcsh} (h : VnOff p b) (d : Sample) :
    acceptSample p d b = deliver (debiasedBit b d) (insertSample p d b) := by
  obtain ⟨hen', hph', -⟩ := insertSample_vn p d b
  rcases h with h | ⟨hph, hen⟩
  · simp [acceptSample_eq, condBit, condState, h]
  · simp [acceptSample_eq, condBit, condState, hph', hen', hph, hen]

theorem deliver_of_xbit {b : Bcsh} (hs : b.state = .xbit) (c : Bool) :
    deliver c b = Bcsh.complete { b with result := (BitVec.ofBool c).setWidth 32 } := by
  simp only [deliver, hs]

theorem deliver_of_word {b : Bcsh} (hs : b.state ∈ [SeqState.initDiscard, .xword, .hSeed])
    (c : Bool) : deliver c b = shiftBit c b := by
  simp only [List.mem_cons, List.not_mem_nil, or_false] at hs
  rcases hs with hs | hs | hs <;> simp only [deliver, hs]

theorem shiftBit_of_lt {b : Bcsh} (h : b.bitcnt.toNat < 31) (c : Bool) :
    shiftBit c b = shiftIn c b := by
  refine if_neg ?_
  rw [shiftIn_bitcnt]
  bv_omega

theorem shiftBit_of_last {b : Bcsh} (h : b.bitcnt = 31) (c : Bool) :
    shiftBit c b = wordDone (shiftIn c b) := by
  refine if_pos ?_
  rw [shiftIn_bitcnt, h]
  rfl

theorem wordDone_of_xword {b : Bcsh} (hs : b.state = .xword) :
    wordDone b = Bcsh.complete { b with result := b.sr, sr := 0, bitcnt := 0 } := by
  simp only [wordDone, hs]

theorem wordDone_of_hSeed {b : Bcsh} (hs : b.state = .hSeed) :
    wordDone b = { b with bitcnt := 0, state := .hStart } := by
  simp only [wordDone, hs]

theorem wordDone_of_initDiscard {b : Bcsh} (hs : b.state = .initDiscard) :
    wordDone b = endOfInit b.wordStart := by
  simp only [wordDone, hs]

theorem endOfInit_of_init {b : Bcsh} (h : b.op = 1) :
    endOfInit b = Bcsh.complete { b with initDone := true } := by
  rw [endOfInit, if_pos h]

theorem endOfInit_of_getWord {b : Bcsh} (h : b.op = 5) :
    endOfInit b = { b with initDone := true, state := .hArm } := by
  rw [endOfInit, h, if_neg (by decide), if_pos rfl]

/-- A delivered bit as the word RESULT takes (40_bias_corrector.md R115). -/
theorem ofBool_setWidth_eq (c : Bool) :
    (BitVec.ofBool c).setWidth 32 = if c = true then (1 : Word) else 0 := by
  cases c <;> rfl

theorem sumReplace_eq_ofNat {v : Window} {sum : BitVec 17} (h : sum.toNat = windowSum v)
    (i : BitVec 5) (d : Sample) :
    sumReplace sum (windowSlot v i) d =
      BitVec.ofNat 17 (sum.toNat - (windowSlot v i).toNat + d.toNat) := by
  have hput := windowSum_put v i d
  have hzero := windowSum_put v i 0#12
  rw [BitVec.toNat_zero] at hzero
  refine BitVec.eq_of_toNat_eq ?_
  have hle := windowSum_le (windowPut v i d)
  rw [sumReplace_toNat v i d sum h, BitVec.toNat_ofNat]
  omega

/-- Settles O28: the extractor and the repetition-count test are out of the way, so the corrector's bit
is delivered, which in XBIT completes the command. -/
theorem extractBitComparesAndInserts : Obligations.ExtractBitComparesAndInserts := by
  intro s d hadc hs hlo hhi hcond hsum
  have hvn : VnOff s.par s.b := (vnOff_iff s.par s.b).2
    (hcond.imp id fun ⟨hen, hph, _⟩ => .inr ⟨hph, hen⟩)
  have hrct : (s.par.hasRct && s.b.rcten) = false := by
    rcases hcond with h | ⟨-, -, h⟩ <;> simp [h, Params.hasRct]
  have hcursor : s.b.cursor + 1 = BitVec.ofNat 5 ((s.b.cursor.toNat + 1) % 32) := by bv_omega
  have hbit : debiasedBit s.b d = true ↔ d.toNat ≤ s.b.sum.toNat / 32 := by
    rw [debiasedBit_eq, decide_eq_true_iff]
  rw [takeEvent_seq_of_testsBand hadc (by simp [hs]),
    correctorStep_of_inBand ((inBand_iff s.b d).2 ⟨hlo, hhi⟩), acceptSample_of_vnOff hvn,
    insertSample_of_rct_off hrct,
    deliver_of_xbit (b := evictInsert d { s.b with retry := 0, lasts := d }) hs, ofBool_setWidth_eq,
    ← hcursor]
  simp only [Bcsh.complete, evictInsert, sumReplace_eq_ofNat hsum, hbit]
  rfl

end Sys2Proof.Machine
end

section
/-! Where a delivered bit goes, state by state, and what becomes of an accepted sample's bit
(41_aggregator_conditioner.md R132 to R137, 42_init.md R153). -/

namespace Sys2Proof.Machine

theorem endOfInit_frame (b : Bcsh) :
    (endOfInit b).lasts = b.lasts ∧ (endOfInit b).retry = b.retry ∧
      (b.vnph = false → (endOfInit b).vnph = false) := by
  rcases endOfInit_cases b with ⟨-, e⟩ | ⟨-, e⟩ | ⟨-, -, e⟩ <;> rw [e]
  · exact ⟨rfl, rfl, fun _ => rfl⟩
  · exact ⟨rfl, rfl, id⟩
  · exact ⟨rfl, rfl, id⟩

/-- Delivery leaves LASTS and RETRY alone and opens no pair. -/
theorem deliver_frame (c : Bool) (b : Bcsh) :
    (deliver c b).lasts = b.lasts ∧ (deliver c b).retry = b.retry ∧
      (b.vnph = false → (deliver c b).vnph = false) := by
  rcases deliver_cases c b with
    ⟨-, e⟩ | ⟨-, -, e⟩ | ⟨-, -, e⟩ | ⟨-, -, e⟩ | ⟨-, -, e⟩ | ⟨-, e⟩ <;> rw [e]
  · exact ⟨rfl, rfl, fun _ => rfl⟩
  · exact ⟨rfl, rfl, id⟩
  · exact endOfInit_frame (shiftIn c b).wordStart
  · exact ⟨rfl, rfl, fun _ => rfl⟩
  · exact ⟨rfl, rfl, id⟩
  · exact ⟨rfl, rfl, id⟩

/-- A bit in XBIT is the command's result (40_bias_corrector.md R115). -/
theorem deliver_ends_extractBit (c : Bool) {b : Bcsh} (hs : b.state = .xbit) :
    (deliver c b).state = .idle ∧ (deliver c b).doneIf = true ∧
      (deliver c b).result.toNat = c.toNat := by
  rw [deliver_of_xbit hs]
  refine ⟨rfl, rfl, ?_⟩
  cases c <;> rfl

/-- A bit in a word state short of the 32nd is shifted into SR, and no more. -/
theorem deliver_shifts (c : Bool) {b : Bcsh}
    (hs : b.state ∈ [SeqState.initDiscard, .xword, .hSeed]) (hn : b.bitcnt.toNat < 31) :
    (deliver c b).sr.toNat = (2 * b.sr.toNat + c.toNat) % 2 ^ 32 ∧
      (deliver c b).bitcnt.toNat = b.bitcnt.toNat + 1 ∧ (deliver c b).state = b.state ∧
      (deliver c b).result = b.result ∧ (deliver c b).doneIf = b.doneIf := by
  rw [deliver_of_word hs, shiftBit_of_lt hn]
  refine ⟨shiftIn_toNat c b, ?_, rfl, rfl, rfl⟩
  rw [shiftIn_bitcnt]
  bv_omega

/-- The 32nd bit ends EXTRACT_WORD with the word. -/
theorem deliver_ends_extractWord (c : Bool) {b : Bcsh} (hs : b.state = .xword)
    (hn : b.bitcnt = 31) :
    (deliver c b).state = .idle ∧ (deliver c b).doneIf = true ∧ (deliver c b).sr = 0 ∧
      (deliver c b).bitcnt = 0 ∧
      (deliver c b).result.toNat = (2 * b.sr.toNat + c.toNat) % 2 ^ 32 := by
  rw [deliver_of_word (by simp [hs]), shiftBit_of_last hn, wordDone_of_xword (b := shiftIn c b) hs]
  exact ⟨rfl, rfl, rfl, rfl, shiftIn_toNat c b⟩

/-- The 32nd bit of a seed leaves the word in SR for H_START. -/
theorem deliver_ends_seed (c : Bool) {b : Bcsh} (hs : b.state = .hSeed) (hn : b.bitcnt = 31) :
    (deliver c b).state = .hStart ∧
      (deliver c b).sr.toNat = (2 * b.sr.toNat + c.toNat) % 2 ^ 32 ∧ (deliver c b).bitcnt = 0 ∧
      (deliver c b).result = b.result ∧ (deliver c b).doneIf = b.doneIf := by
  rw [deliver_of_word (by simp [hs]), shiftBit_of_last hn, wordDone_of_hSeed (b := shiftIn c b) hs]
  exact ⟨rfl, shiftIn_toNat c b, rfl, rfl, rfl⟩

/-- The 32nd bit of the discarded word ends the initialization, as OP says. -/
theorem deliver_ends_init (c : Bool) {b : Bcsh} (hs : b.state = .initDiscard)
    (hn : b.bitcnt = 31) :
    (deliver c b).initDone = true ∧ (deliver c b).sr = 0 ∧ (deliver c b).bitcnt = 0 ∧
      (deliver c b).result = b.result ∧
      (b.op = 1 → (deliver c b).state = .idle ∧ (deliver c b).doneIf = true) ∧
      (b.op = 5 → (deliver c b).state = .hArm ∧ (deliver c b).doneIf = b.doneIf) := by
  have hend : deliver c b = endOfInit (shiftIn c b).wordStart := by
    rw [deliver_of_word (by simp [hs]), shiftBit_of_last hn,
      wordDone_of_initDiscard (b := shiftIn c b) hs]
  rcases endOfInit_cases (shiftIn c b).wordStart with ⟨hop, e⟩ | ⟨hop, e⟩ | ⟨h1, h5, e⟩ <;>
    rw [hend, e] <;> refine ⟨rfl, rfl, rfl, rfl, fun h => ?_, fun h => ?_⟩
  · exact ⟨rfl, rfl⟩
  · exact absurd (hop.symm.trans h) (by decide)
  · exact absurd (hop.symm.trans h) (by decide)
  · exact ⟨rfl, rfl⟩
  · exact absurd h h1
  · exact absurd h h5

/-- An accepted sample enters the window, whatever becomes of its bit. -/
theorem acceptSample_entersWindow (p : Params) (d : Sample) (b : Bcsh) :
    (acceptSample p d b).win = windowPut b.win b.cursor d ∧ (acceptSample p d b).lasts = d ∧
      (acceptSample p d b).retry = 0 := by
  obtain ⟨_, ⟨_, _, _, _, _, rfl, -⟩, e | ⟨bit, e⟩⟩ := acceptSample_cases p d b <;> rw [e]
  · exact ⟨rfl, rfl, rfl⟩
  · obtain ⟨hlasts, hretry, -⟩ := deliver_frame bit _
    exact ⟨(deliver_sameWindow bit _).win, hlasts, hretry⟩

/-- The two ways a bit comes out of the conditioner; no pair is left open. -/
theorem acceptSample_delivers {p : Params} {b : Bcsh} {d : Sample} {c : Bool}
    (h : (p.hasVn = true ∧ b.vnph = true ∧ b.vnb1 ≠ debiasedBit b d ∧ c = b.vnb1) ∨
      (VnOff p b ∧ c = debiasedBit b d)) :
    ∃ ph, (p.hasVn = true → ph = false) ∧
      acceptSample p d b = deliver c { insertSample p d b with vnph := ph } := by
  rcases h with ⟨hvn, hph, hbit, rfl⟩ | ⟨hoff, rfl⟩
  · exact ⟨false, fun _ => rfl, acceptSample_of_unequalBit hvn hph hbit⟩
  · refine ⟨(insertSample p d b).vnph, fun hvn => ?_, acceptSample_of_vnOff hoff d⟩
    rw [(insertSample_vn p d b).2.1]
    rcases hoff with hno | ⟨hph, -⟩
    · simp [hvn] at hno
    · exact hph

/-- Settles O29: the sample enters the window, and its bit is kept, dropped or delivered, each by its
own equation; a delivered bit goes where its state sends it. -/
theorem vonNeumannPairsDropOrDeliver : Obligations.VonNeumannPairsDropOrDeliver := by
  intro s d bit hadc hs hlo hhi hbit
  have hstep := takeEvent_seq_of_testsBand hadc hs d
  rw [correctorStep_of_inBand ((inBand_iff s.b d).2 ⟨hlo, hhi⟩)] at hstep
  rw [← debiasedBit_eq] at hbit
  subst hbit
  obtain ⟨hwin, hlasts, hretry⟩ := acceptSample_entersWindow s.par d s.b
  obtain ⟨rc, rl, hlth, hinsert⟩ := insertSample_eq s.par d s.b
  simp only [← hasVn_iff, ← vnOff_iff]
  refine ⟨_, hstep, hwin, hlasts, hretry, fun hvn hph hen => ?first, fun hvn hph hequal => ?equal,
    fun c hc => ?delivered⟩
  case first =>
    rw [acceptSample_of_firstBit hvn hph hen, hinsert]
    exact ⟨rfl, rfl, rfl, rfl, rfl, rfl, rfl⟩
  case equal =>
    rw [acceptSample_of_equalBit hvn hph hequal, hinsert]
    exact ⟨rfl, rfl, rfl, rfl, rfl, rfl⟩
  case delivered =>
    obtain ⟨ph, hph, hdeliver⟩ := acceptSample_delivers hc
    have hword (hne : s.b.state ≠ .xbit) :
        s.b.state ∈ [SeqState.initDiscard, .xword, .hSeed] := by
      simpa [hne] using hs
    rw [hdeliver, hinsert]
    obtain ⟨-, -, hclosed⟩ := deliver_frame c _
    exact ⟨fun hvn => hclosed (hph hvn), fun hx => deliver_ends_extractBit c hx,
      fun hx hn => deliver_shifts c (hword hx) hn, fun hx hn => deliver_ends_extractWord c hx hn,
      fun hx hn => deliver_ends_seed c hx hn, fun hx hn => deliver_ends_init c hx hn⟩

end Sys2Proof.Machine
end

section
/-! A word of 32 accepted samples with no von Neumann extractor at work: the seed register, the window
and CURSOR bit by bit (40_bias_corrector.md R107 to R111, 41_aggregator_conditioner.md R131 to R134). -/

namespace Sys2Proof.Machine

/-- BCSH with an accepted sample in the window and its bit in SR. -/
def takeBit (p : Params) (d : Sample) (b : Bcsh) : Bcsh :=
  shiftIn (debiasedBit b d) (insertSample p d b)

/-- BCSH with the samples of a list taken so, one after another. -/
def takeBits (p : Params) (ds : List Sample) (b : Bcsh) : Bcsh :=
  ds.foldl (fun c d => takeBit p d c) b

@[simp] theorem takeBits_nil (p : Params) (b : Bcsh) : takeBits p [] b = b := rfl

@[simp] theorem takeBits_cons (p : Params) (d : Sample) (ds : List Sample) (b : Bcsh) :
    takeBits p (d :: ds) b = takeBits p ds (takeBit p d b) := rfl

/-- `c` differs from `b` only in what an accepted sample and the shift-in of its bit write. -/
def SampledFrom (b c : Bcsh) : Prop :=
  c = { b with
        retry := c.retry, lasts := c.lasts, win := c.win, sum := c.sum, cursor := c.cursor
        rctCnt := c.rctCnt, rctLast := c.rctLast, hlthIf := c.hlthIf, sr := c.sr
        bitcnt := c.bitcnt }

theorem SampledFrom.trans {a b c : Bcsh} (h : SampledFrom a b) (k : SampledFrom b c) :
    SampledFrom a c := by
  rw [SampledFrom] at k ⊢
  rw [h] at k
  exact k

theorem SampledFrom.frame {b c : Bcsh} (h : SampledFrom b c) :
    c.state = b.state ∧ c.op = b.op ∧ c.fillIdx = b.fillIdx ∧ c.errCode = b.errCode ∧
      c.result = b.result ∧ c.rejcnt = b.rejcnt ∧ c.doneIf = b.doneIf := by
  rw [h]
  exact ⟨rfl, rfl, rfl, rfl, rfl, rfl, rfl⟩

theorem takeBit_sampledFrom (p : Params) (d : Sample) (b : Bcsh) :
    SampledFrom b (takeBit p d b) := by
  obtain ⟨_, _, _, e⟩ := insertSample_eq p d b
  rw [takeBit, e]
  rfl

theorem takeBits_sampledFrom (p : Params) (ds : List Sample) (b : Bcsh) :
    SampledFrom b (takeBits p ds b) := by
  induction ds generalizing b with
  | nil => exact rfl
  | cons d ds ih => exact (takeBit_sampledFrom p d b).trans (ih (takeBit p d b))

theorem takeBit_sr (p : Params) (d : Sample) (b : Bcsh) :
    (takeBit p d b).sr = b.sr <<< 1 ||| (BitVec.ofBool (debiasedBit b d)).setWidth 32 := by
  obtain ⟨_, _, _, e⟩ := insertSample_eq p d b
  rw [takeBit, e]
  rfl

theorem takeBit_bitcnt (p : Params) (d : Sample) (b : Bcsh) :
    (takeBit p d b).bitcnt = b.bitcnt + 1 := by
  obtain ⟨_, _, _, e⟩ := insertSample_eq p d b
  rw [takeBit, e]
  rfl

theorem takeBit_sameWindow (p : Params) (d : Sample) (b : Bcsh) :
    SameWindow (evictInsert d b) (takeBit p d b) := by
  obtain ⟨_, _, _, e⟩ := insertSample_eq p d b
  rw [takeBit, e]
  exact ⟨rfl, rfl, rfl⟩

theorem SameWindow.oldestFirst {b c : Bcsh} (h : SameWindow b c) :
    c.oldestFirst = b.oldestFirst := by
  rw [Bcsh.oldestFirst, h.win, h.cursor]
  rfl

theorem takeBit_sumExact (p : Params) (d : Sample) {b : Bcsh} (hb : b.sumExact) :
    (takeBit p d b).sumExact :=
  (takeBit_sameWindow p d b).sumExact (sumReplace_toNat b.win b.cursor d b.sum hb)

theorem takeBit_oldestFirst (p : Params) (d : Sample) (b : Bcsh) :
    (takeBit p d b).oldestFirst = b.oldestFirst.tail ++ [d] :=
  (takeBit_sameWindow p d b).oldestFirst.trans (oldestFirst_evictInsert d b)

theorem takeBits_sumExact (p : Params) (ds : List Sample) {b : Bcsh} (hb : b.sumExact) :
    (takeBits p ds b).sumExact := by
  induction ds generalizing b with
  | nil => exact hb
  | cons d ds ih => exact ih (takeBit_sumExact p d hb)

theorem takeBits_cursor (p : Params) (ds : List Sample) (b : Bcsh) :
    (takeBits p ds b).cursor = b.cursor + BitVec.ofNat 5 ds.length := by
  induction ds generalizing b with
  | nil => simp
  | cons d ds ih =>
    rw [takeBits_cons, ih, (takeBit_sameWindow p d b).cursor, evictInsert_cursor, List.length_cons]
    bv_omega

theorem oldestFirst_ne_nil (b : Bcsh) : b.oldestFirst ≠ [] := fun h => by
  simpa [h] using oldestFirst_length b

/-- The samples taken push out as many of the oldest (40_bias_corrector.md R111). -/
theorem takeBits_oldestFirst (p : Params) (ds : List Sample) (b : Bcsh) :
    (takeBits p ds b).oldestFirst = (b.oldestFirst ++ ds).drop ds.length := by
  induction ds generalizing b with
  | nil => simp
  | cons d ds ih =>
    rw [takeBits_cons, ih, takeBit_oldestFirst, List.length_cons,
      ← List.drop_tail,
      List.tail_append_of_ne_nil (oldestFirst_ne_nil b), List.append_assoc, List.singleton_append]

/-- A bit in SR moves up one place with every further bit (41_aggregator_conditioner.md R134). -/
theorem takeBits_sr_of_le (p : Params) (ds : List Sample) (b : Bcsh) {j : Nat}
    (hj : ds.length + j < 32) :
    (takeBits p ds b).sr.getLsbD (ds.length + j) = b.sr.getLsbD j := by
  induction ds generalizing b j with
  | nil => simp
  | cons d ds ih =>
    rw [List.length_cons] at hj ⊢
    rw [takeBits_cons, Nat.add_right_comm, Nat.add_assoc, ih _ (by omega), takeBit_sr]
    have hlt : j + 1 < 32 := by omega
    simp [hlt, BitVec.getLsbD_eq_getElem (Nat.lt_of_succ_lt hlt)]

/-- The newest bit stands in bit 0. -/
theorem takeBit_sr_zero (p : Params) (d : Sample) (b : Bcsh) :
    (takeBit p d b).sr.getLsbD 0 = debiasedBit b d := by
  rw [takeBit_sr]
  simp

/-- The average the draw of index `i` is compared with, times 32: the draws before it and all but the
`i` oldest of the samples before them (40_bias_corrector.md R107, R111). -/
def windowSumAt (b : Bcsh) (ds : List Sample) (i : Nat) : Nat :=
  ((ds.take i).map BitVec.toNat).sum + ((b.oldestFirst.drop i).map BitVec.toNat).sum

theorem windowSumAt_zero (b : Bcsh) (ds : List Sample) : windowSumAt b ds 0 = windowSum b.win := by
  simp [windowSumAt, oldestFirst_sum]

theorem windowSumAt_cons_succ (p : Params) (d : Sample) (ds : List Sample) (b : Bcsh) {i : Nat}
    (hi : i < 32) :
    windowSumAt b (d :: ds) (i + 1) = windowSumAt (takeBit p d b) ds i := by
  have hlen : i ≤ b.oldestFirst.tail.length := by
    rw [List.length_tail, oldestFirst_length]
    omega
  rw [windowSumAt, windowSumAt, takeBit_oldestFirst, List.drop_append_of_le_length hlen,
    List.drop_tail]
  simp
  omega

/-- The bit of draw `i`, where the draws after it have moved it to. -/
theorem takeBits_sr_bit (p : Params) (ds : List Sample) {b : Bcsh} (hb : b.sumExact)
    (hlen : ds.length ≤ 32) {i : Nat} (hi : i < ds.length) :
    (takeBits p ds b).sr.getLsbD (ds.length - 1 - i) =
      decide (ds[i].toNat ≤ windowSumAt b ds i / 32) := by
  induction ds generalizing b i with
  | nil => exact absurd hi (Nat.not_lt_zero i)
  | cons d ds ih =>
    rw [List.length_cons] at hlen hi
    cases i with
    | zero =>
      calc (takeBits p (d :: ds) b).sr.getLsbD ((d :: ds).length - 1 - 0)
          = (takeBits p ds (takeBit p d b)).sr.getLsbD (ds.length + 0) := rfl
        _ = (takeBit p d b).sr.getLsbD 0 := takeBits_sr_of_le p ds _ (by omega)
        _ = debiasedBit b d := takeBit_sr_zero p d b
        _ = decide (d.toNat ≤ windowSumAt b (d :: ds) 0 / 32) := by
          rw [debiasedBit_eq, windowSumAt_zero, hb]
    | succ i =>
      rw [windowSumAt_cons_succ p d ds b (by omega), takeBits_cons, List.length_cons,
        show ds.length + 1 - 1 - (i + 1) = ds.length - 1 - i by omega]
      exact ih (takeBit_sumExact p d hb) (by omega) (by omega)

/-- The word states test the band. -/
theorem testsBand_of_word {st : SeqState} (h : st ∈ [SeqState.initDiscard, .xword, .hSeed]) :
    st ∈ [SeqState.initDiscard, .xbit, .xword, .hSeed] := by
  cases st <;> simp at h ⊢

/-- One accepted sample of a word: its bit is taken, and the 32nd ends the word. -/
theorem takeEvent_seq_of_word {s : State} {d : Sample} (hadc : s.adcConfigured = true)
    (hs : s.b.state ∈ [SeqState.initDiscard, .xword, .hSeed]) (hvn : VnOff s.par s.b)
    (hd : s.b.bandLo.toNat ≤ d.toNat ∧ d.toNat ≤ s.b.bandHi.toNat) :
    takeEvent (.seq d) s = .next { s with
      b := if s.b.bitcnt + 1 = 32 then wordDone (takeBit s.par d s.b) else takeBit s.par d s.b } := by
  obtain ⟨_, _, _, e⟩ := insertSample_eq s.par d s.b
  have hstate : (insertSample s.par d s.b).state = s.b.state := by rw [e]
  rw [takeEvent_seq_of_testsBand hadc (testsBand_of_word hs),
    correctorStep_of_inBand ((inBand_iff s.b d).2 hd), acceptSample_of_vnOff hvn,
    deliver_of_word (hstate ▸ hs), ← takeBit_bitcnt s.par d]
  rfl

/-- The accepted samples that fill SR end the word. -/
theorem takeEvents_word {ds : List Sample} {d : Sample} {s : State} (hadc : s.adcConfigured = true)
    (hs : s.b.state ∈ [SeqState.initDiscard, .xword, .hSeed]) (hvn : VnOff s.par s.b)
    (hband : ∀ x ∈ d :: ds, s.b.bandLo.toNat ≤ x.toNat ∧ x.toNat ≤ s.b.bandHi.toNat)
    (hcount : s.b.bitcnt.toNat + (d :: ds).length = 32) :
    takeEvents ((d :: ds).map .seq) s =
      .next { s with b := wordDone (takeBits s.par (d :: ds) s.b) } := by
  induction ds generalizing d s with
  | nil =>
    have hlast : s.b.bitcnt + 1 = 32 := by
      rw [List.length_singleton] at hcount
      bv_omega
    rw [List.map_singleton,
      takeEvents_cons_of_next (takeEvent_seq_of_word hadc hs hvn (hband d (by simp))), if_pos hlast]
    rfl
  | cons d' ds ih =>
    have hmore : s.b.bitcnt + 1 ≠ 32 := by
      rw [List.length_cons, List.length_cons] at hcount
      bv_omega
    have hfrom := takeBit_sampledFrom s.par d s.b
    rw [List.map_cons,
      takeEvents_cons_of_next (takeEvent_seq_of_word hadc hs hvn (hband d (by simp))), if_neg hmore]
    refine ih (s := { s with b := takeBit s.par d s.b }) hadc ?_ ?_ ?_ ?_
    · rw [hfrom]
      exact hs
    · rw [hfrom]
      exact hvn
    · rw [hfrom]
      exact fun x hx => hband x (List.mem_cons_of_mem d hx)
    · rw [takeBit_bitcnt]
      simp only [List.length_cons] at hcount ⊢
      bv_omega

/-- A whole word: 32 accepted samples from an empty SR. -/
theorem takeEvents_wholeWord {ds : List Sample} {s : State} (hadc : s.adcConfigured = true)
    (hs : s.b.state ∈ [SeqState.initDiscard, .xword, .hSeed]) (hvn : VnOff s.par s.b)
    (hband : ∀ x ∈ ds, s.b.bandLo.toNat ≤ x.toNat ∧ x.toNat ≤ s.b.bandHi.toNat)
    (hbitcnt : s.b.bitcnt = 0) (hlen : ds.length = 32) :
    takeEvents (ds.map .seq) s = .next { s with b := wordDone (takeBits s.par ds s.b) } := by
  cases ds with
  | nil => simp at hlen
  | cons d ds => exact takeEvents_word hadc hs hvn hband (by simpa [hbitcnt] using hlen)

/-- 32 samples are the whole window, and CURSOR is back where it was (40_bias_corrector.md R111). -/
theorem takeBits_wholeWindow (p : Params) {ds : List Sample} (hlen : ds.length = 32) (b : Bcsh) :
    (takeBits p ds b).oldestFirst = ds ∧ (takeBits p ds b).cursor = b.cursor := by
  constructor
  · rw [takeBits_oldestFirst]
    exact List.drop_left' ((oldestFirst_length b).trans hlen.symm)
  · rw [takeBits_cursor, hlen]
    bv_omega

/-- Settles O43: the 32 draws are a whole word, whose completion moves SR to RESULT. -/
theorem extractWordAssemblesTheBits : Obligations.ExtractWordAssemblesTheBits := by
  intro s ds hadc hcond hs _ hbitcnt hsum hlen hband
  have hstate : (takeBits s.par ds s.b).state = .xword :=
    (takeBits_sampledFrom s.par ds s.b).frame.1.trans hs
  have hrun := takeEvents_wholeWord hadc (by simp [hs]) ((vnOff_iff s.par s.b).2 hcond) hband
    hbitcnt hlen
  rw [wordDone_of_xword hstate] at hrun
  obtain ⟨hwindow, hcursor⟩ := takeBits_wholeWindow s.par hlen s.b
  refine ⟨_, hrun, fun i hi => ?_, hwindow, hcursor, takeBits_sumExact s.par ds hsum, rfl, rfl, rfl,
    rfl⟩
  have hbit := takeBits_sr_bit s.par ds hsum hlen.le hi
  rwa [hlen] at hbit

end Sys2Proof.Machine
end

section
/-! The acceptance of a command in IDLE (45_register_access.md R201), and the initialization of the
window from the command to its end (42_init.md R150 to R153). -/

namespace Sys2Proof.Machine

theorem issue_of_idle {b : Bcsh} {n : Bool} (h : b.state = .idle)
    (hd : n = true → b.initDone = true) (f : Bcsh → Bcsh) : b.issue n f = f b := by
  rcases issue_cases n f b with ⟨hbusy, -⟩ | ⟨-, hn, hno, -⟩ | ⟨-, -, e⟩
  · exact absurd h hbusy
  · simp [hd hn] at hno
  · exact e

/-- A command runs the same as a command word and as a write of CMD. -/
theorem exec_of_mem_formats {i : Instr} {o : Opcode} {w : Word}
    (hi : i ∈ [opcodeInstr o, .wrCmd w]) (hw : decodeOpcode w = some o) (s : State) :
    exec i s = exec (opcodeInstr o) s := by
  simp only [List.mem_cons, List.not_mem_nil, or_false] at hi
  rcases hi with rfl | rfl
  · rfl
  · exact exec_wrCmd_of_decodeOpcode hw s

/-- Settles O14: in IDLE with INIT_DONE = 1 the checks pass and the acceptance is made. -/
theorem extractAndHarvestAreAccepted : Obligations.ExtractAndHarvestAreAccepted := by
  intro s hidle hd
  have accepted (f : Bcsh → Bcsh) :
      s.answerWrite (Bcsh.issue true f) = s.answer .done (f s.b) := by
    rw [State.answerWrite, issue_of_idle hidle fun _ => hd]
  refine ⟨fun i hi => ?_, fun i hi => ?_, fun i hi => ?_⟩
  · rw [exec_of_mem_formats (o := .extractBit) hi (by decide)]
    exact congrArg _ (accepted Bcsh.acceptExtractBit)
  · rw [exec_of_mem_formats (o := .extractWord) hi (by decide)]
    exact congrArg _ (accepted Bcsh.acceptExtractWord)
  · rw [exec_of_mem_formats (o := .harvest) hi (by decide)]
    exact congrArg _ (accepted Bcsh.acceptHarvest)

/-- INIT and GET_WORD before initialization start the fill, each with its own opcode (42_init.md R150,
43_harvest.md R175). -/
theorem takeEvent_cmd_startsFill {s : State} {w : Word} (hidle : s.b.state = .idle)
    (hd : s.b.initDone = false) (hw : w = 1 ∨ w = 5) :
    takeEvent (.host (.cmd w)) s =
      .next (s.answer .done { s.b.startCommand (w.setWidth 3) .initFill with fillIdx := 0 }) := by
  have accepted (f : Bcsh → Bcsh) :
      s.answerWrite (Bcsh.issue false f) = s.answer .done (f s.b) := by
    rw [State.answerWrite, issue_of_idle hidle (fun h => absurd h Bool.false_ne_true)]
  rw [takeEvent_cmd]
  rcases hw with rfl | rfl
  · rw [exec_wrCmd_of_decodeOpcode (o := .init) (by decide)]
    refine (congrArg _ (accepted Bcsh.acceptInit)).trans ?_
    rw [Bcsh.acceptInit, hd]
    rfl
  · rw [exec_wrCmd_of_decodeOpcode (o := .getWord) (by decide)]
    refine (congrArg _ (accepted Bcsh.acceptGetWord)).trans ?_
    rw [Bcsh.acceptGetWord, hd]
    rfl

theorem takeEvents_append_of_next {l : List Event} {s u : State} (h : takeEvents l s = .next u)
    (m : List Event) : takeEvents (l ++ m) s = takeEvents m u := by
  rw [takeEvents_append, h]

/-- BCSH with the samples of a list filled in, one after another. -/
def fillPuts (ds : List Sample) (b : Bcsh) : Bcsh := ds.foldl (fun c d => fillPut d c) b

@[simp] theorem fillPuts_nil (b : Bcsh) : fillPuts [] b = b := rfl

@[simp] theorem fillPuts_cons (d : Sample) (ds : List Sample) (b : Bcsh) :
    fillPuts (d :: ds) b = fillPuts ds (fillPut d b) := rfl

/-- The fill writes the window, SUM and FILLIDX only. -/
theorem fillPuts_eq (ds : List Sample) (b : Bcsh) :
    fillPuts ds b =
      { b with
        win := (fillPuts ds b).win, sum := (fillPuts ds b).sum
        fillIdx := (fillPuts ds b).fillIdx } := by
  induction ds generalizing b with
  | nil => rfl
  | cons d ds ih =>
    rw [fillPuts_cons, ih (fillPut d b)]
    rfl

theorem fillPuts_sumExact (ds : List Sample) {b : Bcsh} (hb : b.sumExact) :
    (fillPuts ds b).sumExact := by
  induction ds generalizing b with
  | nil => exact hb
  | cons d ds ih => exact ih (sumReplace_toNat b.win (fillSlot b) d b.sum hb)

/-- The slots are filled in order, from the one FILLIDX names on (42_init.md R151). -/
theorem fillPuts_win (ds : List Sample) (b : Bcsh) (h : b.fillIdx.toNat + ds.length ≤ 32) :
    (fillPuts ds b).win.toList =
      b.win.toList.take b.fillIdx.toNat ++ ds ++
        b.win.toList.drop (b.fillIdx.toNat + ds.length) := by
  induction ds generalizing b with
  | nil => simp
  | cons d ds ih =>
    rw [List.length_cons] at h
    have hidx : (fillPut d b).fillIdx.toNat = b.fillIdx.toNat + 1 := by
      rw [fillPut_fillIdx]
      bv_omega
    have hslot : (fillSlot b).toNat = b.fillIdx.toNat := by
      simp only [fillSlot, BitVec.extractLsb'_toNat, Nat.shiftRight_zero]
      omega
    have hwin : (fillPut d b).win.toList = b.win.toList.set b.fillIdx.toNat d := by
      rw [fillPut_win, windowPut, Vector.toList_set, hslot]
    have hlen : b.fillIdx.toNat < b.win.toList.length := by
      rw [Vector.length_toList]
      omega
    rw [fillPuts_cons, ih (fillPut d b) (by omega), hwin, hidx, List.length_cons,
      List.take_succ_eq_append_getElem (by simpa using hlen), List.take_set_of_le le_rfl,
      List.getElem_set_self, List.drop_set_of_lt (by omega), Nat.add_right_comm, Nat.add_assoc]
    simp

theorem takeEvent_seq_of_initFill {s : State} (hadc : s.adcConfigured = true)
    (hs : s.b.state = .initFill) (d : Sample) :
    takeEvent (.seq d) s = .next { s with b := fillStep d s.b } := by
  simp only [takeEvent, seqStep, hs, SeqState.sampling, hadc, Bool.not_true, Bool.and_false,
    Bool.false_eq_true, if_false]

/-- The fill draws that reach the 32nd slot leave the machine at the start of the discarded word
(42_init.md R151, R152). -/
theorem takeEvents_fillPuts {ds : List Sample} {d : Sample} {s : State}
    (hadc : s.adcConfigured = true) (hs : s.b.state = .initFill)
    (hcount : s.b.fillIdx.toNat + (d :: ds).length = 32) :
    takeEvents ((d :: ds).map .seq) s = .next { s with
      b := Bcsh.wordStart { fillPuts (d :: ds) s.b with
        cursor := 0, fillIdx := 0, state := .initDiscard } } := by
  induction ds generalizing d s with
  | nil =>
    have hlast : s.b.fillIdx + 1 = 32 := by
      rw [List.length_singleton] at hcount
      bv_omega
    rw [List.map_singleton, takeEvents_cons_of_next (takeEvent_seq_of_initFill hadc hs d),
      fillStep, fillPut_fillIdx, if_pos hlast]
    rfl
  | cons d' ds ih =>
    have hmore : s.b.fillIdx + 1 ≠ 32 := by
      rw [List.length_cons, List.length_cons] at hcount
      bv_omega
    rw [List.map_cons, takeEvents_cons_of_next (takeEvent_seq_of_initFill hadc hs d),
      fillStep, fillPut_fillIdx, if_neg hmore]
    refine ih (s := { s with b := fillPut d s.b }) hadc hs ?_
    rw [fillPut_fillIdx]
    simp only [List.length_cons] at hcount ⊢
    bv_omega

/-- The whole fill: 32 draws are the window, slot by slot. -/
theorem takeEvents_fill {ds : List Sample} {s : State} (hadc : s.adcConfigured = true)
    (hs : s.b.state = .initFill) (hidx : s.b.fillIdx = 0) (hsum : s.b.sumExact)
    (hlen : ds.length = 32) :
    ∃ w : Window, w.toList = ds ∧
      takeEvents (ds.map .seq) s = .next
        { s with
          b := { s.b with
                 win := w, sum := BitVec.ofNat 17 (ds.map BitVec.toNat).sum, cursor := 0
                 fillIdx := 0, state := .initDiscard, sr := 0, bitcnt := 0 } } := by
  have hwin : (fillPuts ds s.b).win.toList = ds := by
    rw [fillPuts_win ds s.b (by simp [hidx, hlen]), hidx, hlen, List.drop_of_length_le (by simp)]
    simp
  have hexact : (fillPuts ds s.b).sum = BitVec.ofNat 17 (ds.map BitVec.toNat).sum := by
    have h := fillPuts_sumExact ds hsum
    rw [Bcsh.sumExact, windowSum, hwin] at h
    rw [← h, BitVec.ofNat_toNat, BitVec.setWidth_eq]
  have hrun : takeEvents (ds.map .seq) s = .next { s with
      b := Bcsh.wordStart { fillPuts ds s.b with
        cursor := 0, fillIdx := 0, state := .initDiscard } } := by
    cases ds with
    | nil => simp at hlen
    | cons d ds => exact takeEvents_fillPuts hadc hs (by simpa [hidx] using hlen)
  refine ⟨(fillPuts ds s.b).win, hwin, ?_⟩
  rw [hrun, ← hexact, fillPuts_eq ds s.b]
  rfl

/-- What the end of the discarded word leaves, whichever command it belongs to (42_init.md R153). -/
theorem endOfInit_wordStart_frame (b : Bcsh) (hf : b.fillIdx = 0) :
    (endOfInit b.wordStart).initDone = true ∧ (endOfInit b.wordStart).errCode = b.errCode ∧
      (endOfInit b.wordStart).sr = 0 ∧ (endOfInit b.wordStart).bitcnt = 0 ∧
      (endOfInit b.wordStart).fillIdx = 0 ∧ (endOfInit b.wordStart).result = b.result ∧
      (endOfInit b.wordStart).rejcnt = b.rejcnt := by
  rcases endOfInit_cases b.wordStart with ⟨-, e⟩ | ⟨-, e⟩ | ⟨-, -, e⟩ <;> rw [e]
  · exact ⟨rfl, rfl, rfl, rfl, rfl, rfl, rfl⟩
  · exact ⟨rfl, rfl, rfl, rfl, hf, rfl, rfl⟩
  · exact ⟨rfl, rfl, rfl, rfl, hf, rfl, rfl⟩

/-- With CURSOR 0 the oldest sample stands in slot 0. -/
theorem oldestFirst_of_cursor_zero {b : Bcsh} (h : b.cursor = 0) :
    b.oldestFirst = b.win.toList := by
  rw [Bcsh.oldestFirst, h]
  exact List.rotate_zero _

/-- The machine after the command `w` and the fill: the window `v`, no pair open, the discarded word to
come (42_init.md R150 to R152). -/
def State.filled (w : Word) (v : Window) (s : State) : State :=
  { s with
    b := { s.b with
           errCode := 0, retry := 0, vnph := false, op := w.setWidth 3
           win := v, sum := BitVec.ofNat 17 (windowSum v), cursor := 0
           fillIdx := 0, state := .initDiscard, sr := 0, bitcnt := 0 }
    resp := .done }

theorem filled_sumExact (w : Word) (v : Window) (s : State) : (s.filled w v).b.sumExact := by
  have hle := windowSum_le v
  show (BitVec.ofNat 17 (windowSum v)).toNat = windowSum v
  rw [BitVec.toNat_ofNat]
  omega

theorem takeEvents_cmd_fill {s : State} {w : Word} {fill : List Sample}
    (hadc : s.adcConfigured = true) (hidle : s.b.state = .idle) (hd : s.b.initDone = false)
    (hsum : s.b.sumExact) (hw : w = 1 ∨ w = 5) (hlen : fill.length = 32) :
    ∃ v : Window, takeEvents (.host (.cmd w) :: fill.map .seq) s = .next (s.filled w v) := by
  obtain ⟨v, rfl, hrun⟩ := takeEvents_fill (ds := fill)
    (s := s.answer .done { s.b.startCommand (w.setWidth 3) .initFill with fillIdx := 0 })
    hadc rfl rfl hsum hlen
  exact ⟨v, (takeEvents_cons_of_next (takeEvent_cmd_startsFill hidle hd hw) _).trans hrun⟩

/-- The discarded word replaces the fill: its 32 samples are the window, from slot 0 on (42_init.md
R152, R153). -/
theorem takeEvents_discardedWord {s : State} {ds : List Sample} (hadc : s.adcConfigured = true)
    (hs : s.b.state = .initDiscard) (hvn : VnOff s.par s.b)
    (hband : ∀ x ∈ ds, s.b.bandLo.toNat ≤ x.toNat ∧ x.toNat ≤ s.b.bandHi.toNat)
    (hbitcnt : s.b.bitcnt = 0) (hcursor : s.b.cursor = 0) (hsum : s.b.sumExact)
    (hlen : ds.length = 32) :
    ∃ c, takeEvents (ds.map .seq) s = .next { s with b := endOfInit c.wordStart } ∧
      SampledFrom s.b c ∧ c.win.toList = ds ∧ c.cursor = 0 ∧ c.sumExact := by
  have hfrom := takeBits_sampledFrom s.par ds s.b
  obtain ⟨hwindow, hback⟩ := takeBits_wholeWindow s.par hlen s.b
  have hzero : (takeBits s.par ds s.b).cursor = 0 := hback.trans hcursor
  refine ⟨takeBits s.par ds s.b, ?_, hfrom, ?_, hzero, takeBits_sumExact s.par ds hsum⟩
  · rw [takeEvents_wholeWord hadc (by simp [hs]) hvn hband hbitcnt hlen, wordDone_of_initDiscard]
    exact hfrom.frame.1.trans hs
  · rw [← oldestFirst_of_cursor_zero hzero, hwindow]

/-- Settles O42: the command starts the fill, the fill ends in the discarded word, and that word ends
the initialization as OP says. -/
theorem initRunsToCompletion : Obligations.InitRunsToCompletion := by
  intro s w fill rest hadc hcond hidle hd hsum hw hfill hrest hband
  obtain ⟨v, hstart⟩ := takeEvents_cmd_fill hadc hidle hd hsum hw hfill
  have hoff : VnOff (s.filled w v).par (s.filled w v).b :=
    (vnOff_iff _ _).2 (hcond.imp id (Or.imp id fun hen => ⟨rfl, hen⟩))
  obtain ⟨c, hword, hfrom, hwin, hcursor, hexact⟩ := takeEvents_discardedWord
    (s := s.filled w v) hadc rfl hoff hband rfl rfl (filled_sumExact w v s) hrest
  obtain ⟨-, hop, hidx, herr, hresult, hrej, hdoneIf⟩ := hfrom.frame
  obtain ⟨hdone, herr', hsr, hbitcnt, hidx', hresult', hrej'⟩ := endOfInit_wordStart_frame c hidx
  have hsame := endOfInit_sameWindow c.wordStart
  refine ⟨{ s.filled w v with b := endOfInit c.wordStart }, ?_, hdone, herr'.trans herr, ?_,
    hsame.sumExact hexact, hsame.cursor.trans hcursor, hsr, hbitcnt, hidx', hresult'.trans hresult,
    hrej'.trans hrej, rfl, fun h1 => ?_, fun h5 => ?_⟩
  · rw [List.map_append, ← List.cons_append, takeEvents_append_of_next hstart, hword]
  · rw [hsame.win]
    exact hwin
  · subst h1
    rw [endOfInit_of_init (b := c.wordStart) hop]
    exact ⟨rfl, rfl, rfl⟩
  · subst h5
    rw [endOfInit_of_getWord (b := c.wordStart) hop]
    exact ⟨rfl, hop, hdoneIf⟩

end Sys2Proof.Machine
end

section
/-! The repetition-count test: what it observes, and what leaves its registers alone
(41_aggregator_conditioner.md R139, R140). -/

namespace Sys2Proof.Machine

theorem hasRct_iff (p : Params) : p.hasRct = true ↔ p.cond = .rct ∨ p.cond = .vnRct := by
  unfold Params.hasRct
  cases p.cond <;> simp

/-- From `b` to `c` RCT_LAST, RCT_CNT and HLTHIF are unchanged. -/
structure SameRct (b c : Bcsh) : Prop where
  rctLast : c.rctLast = b.rctLast
  rctCnt : c.rctCnt = b.rctCnt
  hlthIf : c.hlthIf = b.hlthIf

theorem SameRct.refl (b : Bcsh) : SameRct b b := ⟨rfl, rfl, rfl⟩

theorem SameRct.trans {a b c : Bcsh} (h : SameRct a b) (k : SameRct b c) : SameRct a c :=
  ⟨k.rctLast.trans h.rctLast, k.rctCnt.trans h.rctCnt, k.hlthIf.trans h.hlthIf⟩

theorem endOfInit_sameRct (b : Bcsh) : SameRct b (endOfInit b) := by
  rcases endOfInit_cases b with ⟨-, e⟩ | ⟨-, e⟩ | ⟨-, -, e⟩ <;> rw [e] <;> exact ⟨rfl, rfl, rfl⟩

/-- Where a conditioned bit goes has no bearing on the test. -/
theorem deliver_sameRct (bit : Bool) (b : Bcsh) : SameRct b (deliver bit b) := by
  have shifted : SameRct b (shiftIn bit b).wordStart := ⟨rfl, rfl, rfl⟩
  rcases deliver_cases bit b with
    ⟨-, e⟩ | ⟨-, -, e⟩ | ⟨-, -, e⟩ | ⟨-, -, e⟩ | ⟨-, -, e⟩ | ⟨-, e⟩ <;> rw [e]
  · exact ⟨rfl, rfl, rfl⟩
  · exact ⟨rfl, rfl, rfl⟩
  · exact shifted.trans (endOfInit_sameRct _)
  · exact ⟨rfl, rfl, rfl⟩
  · exact ⟨rfl, rfl, rfl⟩
  · exact .refl b

theorem condState_sameRct (p : Params) (bit : Bool) (b : Bcsh) :
    SameRct b (condState p bit b) := by
  obtain ⟨_, _, e, -⟩ := condState_eq p bit b
  rw [e]
  exact ⟨rfl, rfl, rfl⟩

/-- Of an accepted sample only the observation reaches the test: the window, the extractor and the
delivery of the bit do not. -/
theorem acceptSample_sameRct (p : Params) (d : Sample) (b : Bcsh) :
    SameRct (observe p d b) (acceptSample p d b) := by
  have conditioned : SameRct (observe p d b) (condState p (debiasedBit b d) (insertSample p d b)) :=
    .trans (b := insertSample p d b) ⟨rfl, rfl, rfl⟩ (condState_sameRct p _ _)
  rw [acceptSample_eq]
  cases condBit p (debiasedBit b d) (insertSample p d b) with
  | none => exact conditioned
  | some c => exact conditioned.trans (deliver_sameRct c _)

/-- A rejected sample is not observed. -/
theorem reject_sameRct (p : Params) (b : Bcsh) : SameRct b (reject p b) := by
  unfold reject
  split <;> exact ⟨rfl, rfl, rfl⟩

/-- A fill sample is not observed (41_aggregator_conditioner.md R140). -/
theorem fillStep_sameRct (d : Sample) (b : Bcsh) : SameRct b (fillStep d b) := by
  rcases fillStep_cases d b with ⟨-, e⟩ | ⟨-, e⟩ <;> rw [e] <;> exact ⟨rfl, rfl, rfl⟩

/-- The test at work: the sample is the last one seen, the run is counted, and HLTHIF is raised at
the cutoff. -/
theorem observe_of_rct_on {p : Params} {b : Bcsh} (hrct : p.hasRct = true) (hen : b.rcten = true)
    (d : Sample) :
    (observe p d b).rctLast = d ∧ (observe p d b).rctCnt = rctNext d b ∧
      (observe p d b).hlthIf = (b.hlthIf || decide (p.rctCutoff ≤ (rctNext d b).toNat)) := by
  rw [observe, rctObserve, if_pos (by simp [hrct, hen])]
  exact ⟨rfl, rfl, rfl⟩

/-- The test disabled observes nothing. -/
theorem observe_of_rct_off {b : Bcsh} (hen : b.rcten = false) (p : Params) (d : Sample) :
    SameRct b (observe p d b) := by
  rw [observe, rctObserve, if_neg (by simp [hen])]
  exact ⟨rfl, rfl, rfl⟩

/-- The run length on numbers: one more, up to 0xFFFF, or a new run. -/
theorem rctNext_toNat (d : Sample) (b : Bcsh) :
    (rctNext d b).toNat =
      if b.rctCnt.toNat ≠ 0 ∧ d = b.rctLast then min (b.rctCnt.toNat + 1) 0xFFFF else 1 := by
  have hzero : b.rctCnt ≠ 0 ↔ b.rctCnt.toNat ≠ 0 := by bv_omega
  simp only [rctNext, hzero]
  split
  · exact satInc16_toNat b.rctCnt
  · rfl

/-- Settles O30: an in-band sample outside the fill is accepted, and the test, enabled, observes it; a
fill step, a rejection and the disabled test leave its registers alone. -/
theorem repetitionCountFollowsAcceptedSamples :
    Obligations.RepetitionCountFollowsAcceptedSamples := by
  intro s d hadc hcond hs
  have hrct : s.par.hasRct = true := (hasRct_iff s.par).2 hcond
  by_cases hfill : s.b.state = .initFill
  · refine ⟨_, takeEvent_seq_of_initFill hadc hfill d, ?_⟩
    obtain ⟨hlast, hcnt, hhlth⟩ := fillStep_sameRct d s.b
    rw [if_neg fun ⟨_, hne, _⟩ => hne hfill]
    exact ⟨hlast, hcnt, hhlth⟩
  refine ⟨_, takeEvent_seq_of_testsBand hadc (by simpa [hfill] using hs) d, ?_⟩
  cases hband : inBand s.b d with
  | false =>
    obtain ⟨hlast, hcnt, hhlth⟩ := reject_sameRct s.par s.b
    rw [correctorStep_of_outOfBand hband,
      if_neg fun ⟨_, _, hin⟩ => by simp [(inBand_iff s.b d).2 hin] at hband]
    exact ⟨hlast, hcnt, hhlth⟩
  | true =>
    have haccept := acceptSample_sameRct s.par d s.b
    rw [correctorStep_of_inBand hband]
    cases hen : s.b.rcten with
    | false =>
      obtain ⟨hlast, hcnt, hhlth⟩ := (observe_of_rct_off hen s.par d).trans haccept
      rw [if_neg fun ⟨hon, _⟩ => Bool.false_ne_true hon]
      exact ⟨hlast, hcnt, hhlth⟩
    | true =>
      obtain ⟨hlast, hcnt, hhlth⟩ := observe_of_rct_on hrct hen d
      rw [if_pos ⟨rfl, hfill, (inBand_iff s.b d).1 hband⟩]
      simp [haccept.rctLast, haccept.rctCnt, haccept.hlthIf, hlast, hcnt, hhlth, rctNext_toNat]

end Sys2Proof.Machine
end

section
/-! The state of absent conditioner units, the pair open in IDLE, and ERR_CODE
(41_aggregator_conditioner.md R135, 45_register_access.md R208, 60_exceptions.md R233). -/

namespace Sys2Proof.Machine

/-- No event changes the parameters (entry 3). -/
theorem takeEvent_par {e : Event} {s t : State} (h : takeEvent e s = .next t) :
    t.par = s.par := by
  rcases takeEvent_cases h with
    ⟨u, sw, ⟨-, hu⟩, rfl, -⟩ | ⟨d, rfl, hseq⟩ | ⟨rfl, rfl⟩ | ⟨-, hacc⟩ | ⟨rfl, rfl⟩
  · rw [hu]
    rfl
  · rcases (seqStep_cases hseq).2 with ⟨-, e⟩ | ⟨-, -, e⟩ <;> rw [e]
  · rcases dispStep_cases s with ⟨-, e⟩ | ⟨-, -, e⟩ | ⟨-, e⟩ <;> rw [e]
  · rw [hacc]
  · rfl

/-- An invariant of BCSH under its parameters is kept by `step` where reset has it and accesses, SEQ
and DISP keep it. -/
theorem step_keeps_under_par {P : Params → Bcsh → Prop} (reset : ∀ p, P p (Bcsh.reset p))
    (access : ∀ {p b c}, AccessEffect p b c → P p b → P p c)
    (seq : ∀ {p accOut d b c}, SeqEffect p accOut d b c → P p b → P p c)
    (disp : ∀ {p b}, P p b → P p { b with prngDone := true } ∧ P p { b with aesIf := true })
    {s t : State} (hs : P s.par s.b) (h : step s = .next t) : P t.par t.b := by
  obtain ⟨e, s', he, hpar, hb, -⟩ := step_cases h
  rw [← hb, ← hpar] at hs
  rw [takeEvent_par he]
  have heff := takeEvent_eventEffect he
  generalize t.b = c at heff ⊢
  cases heff with
  | none => exact hs
  | access ha => exact access ha hs
  | seq hq => exact seq hq hs
  | prngServed => exact (disp hs).1
  | aesServed => exact (disp hs).2
  | reset => exact reset _

/-- Every error cause has a code the spec names (60_exceptions.md R233). -/
theorem errCause_code_le (c : ErrCause) : c.code.toNat ≤ 4 := by
  cases c <;> decide

/-- The fields of the absent units are 0 (41_aggregator_conditioner.md R135; entry 13). -/
def AbsentUnitsZero (p : Params) (b : Bcsh) : Prop :=
  (p.hasVn = false → b.vnen = false ∧ b.vnph = false ∧ b.vnb1 = false) ∧
  (p.hasRct = false → b.rcten = false ∧ b.rctLast = 0 ∧ b.rctCnt = 0)

/-- What `State.condAgrees` says, of BCSH and its parameters. -/
structure CondLegal (p : Params) (b : Bcsh) : Prop where
  absent : AbsentUnitsZero p b
  idle : b.state = .idle → b.vnph = false
  errCode : b.errCode.toNat ≤ 4

theorem condAgrees_iff (s : State) : s.condAgrees ↔ CondLegal s.par s.b :=
  ⟨fun ⟨hvn, hrct, hidle, herr⟩ => ⟨⟨hvn, hrct⟩, hidle, herr⟩,
    fun ⟨⟨hvn, hrct⟩, hidle, herr⟩ => ⟨hvn, hrct, hidle, herr⟩⟩

theorem AbsentUnitsZero.closePair {p : Params} {b : Bcsh} (h : AbsentUnitsZero p b) :
    AbsentUnitsZero p { b with vnph := false } := by
  obtain ⟨hvn, hrct⟩ := h
  refine ⟨fun hp => ?_, hrct⟩
  obtain ⟨hen, -, hb1⟩ := hvn hp
  exact ⟨hen, rfl, hb1⟩

/-- A write of CTRL cannot enable an absent unit (45_register_access.md R203). -/
theorem AbsentUnitsZero.ctrlWrite {p : Params} {b : Bcsh} (h : AbsentUnitsZero p b) (w : Word) :
    AbsentUnitsZero p (ctrlWrite p w b) := by
  obtain ⟨hvn, hrct⟩ := h
  refine ⟨fun hp => ?_, fun hp => ?_⟩
  · obtain ⟨-, hph, hb1⟩ := hvn hp
    simp [hp, hph, hb1]
  · obtain ⟨-, hlast, hcnt⟩ := hrct hp
    simp [hp, hlast, hcnt]

theorem AccessEffect.condLegal {p : Params} {b c : Bcsh} (h : AccessEffect p b c)
    (hb : CondLegal p b) : CondLegal p c := by
  obtain ⟨habsent, hidle, herr⟩ := hb
  cases h with
  | same | intsts | band => exact ⟨habsent, hidle, herr⟩
  | illegal | busy | notInit => exact ⟨habsent, hidle, errCause_code_le _⟩
  | initAgain | fillStart | bitStart | wordStart | armStart =>
    exact ⟨habsent.closePair, fun _ => rfl, errCause_code_le .none⟩
  | ctrl w => exact ⟨habsent.ctrlWrite w, hidle, herr⟩

/-- A sample is taken outside IDLE, and the absent units take no part in it. -/
theorem TakenSample.condLegal {p : Params} {d : Sample} {b c : Bcsh} (h : TakenSample p d b c)
    (hs : b.state ≠ .idle) (hb : CondLegal p b) : CondLegal p c := by
  obtain ⟨rc, rl, hlth, ph, b1, rfl, -, hrct, hvn⟩ := h
  obtain ⟨⟨hvnZero, hrctZero⟩, -, herr⟩ := hb
  refine ⟨⟨fun hp => ?_, fun hp => ?_⟩, fun hidle => absurd hidle hs, herr⟩
  · obtain ⟨rfl, rfl⟩ := hvn hp
    exact hvnZero hp
  · obtain ⟨rfl, rfl⟩ := hrct hp
    exact hrctZero hp

theorem endOfInit_condLegal {p : Params} {b : Bcsh} (hs : b.state ≠ .idle) (hb : CondLegal p b) :
    CondLegal p (endOfInit b) := by
  obtain ⟨habsent, -, herr⟩ := hb
  rcases endOfInit_cases b with ⟨-, e⟩ | ⟨-, e⟩ | ⟨-, -, e⟩ <;> rw [e]
  · exact ⟨habsent.closePair, fun _ => rfl, herr⟩
  · exact ⟨habsent, nofun, herr⟩
  · exact ⟨habsent, fun hidle => absurd hidle hs, herr⟩

theorem deliver_condLegal (bit : Bool) {p : Params} {b : Bcsh} (hb : CondLegal p b) :
    CondLegal p (deliver bit b) := by
  have shifted : CondLegal p (shiftIn bit b) := ⟨hb.absent, hb.idle, hb.errCode⟩
  rcases deliver_cases bit b with
    ⟨-, e⟩ | ⟨-, -, e⟩ | ⟨hs, -, e⟩ | ⟨-, -, e⟩ | ⟨-, -, e⟩ | ⟨-, e⟩ <;> rw [e]
  · exact ⟨hb.absent.closePair, fun _ => rfl, hb.errCode⟩
  · exact shifted
  · exact endOfInit_condLegal (by simp [hs]) ⟨hb.absent, hb.idle, hb.errCode⟩
  · exact ⟨hb.absent.closePair, fun _ => rfl, hb.errCode⟩
  · exact ⟨hb.absent, nofun, hb.errCode⟩
  · exact hb

theorem correctorStep_condLegal (d : Sample) {p : Params} {b : Bcsh} (hs : b.state ≠ .idle)
    (hb : CondLegal p b) : CondLegal p (correctorStep p d b) :=
  correctorStep_induction ⟨hb.absent, hb.idle, hb.errCode⟩
    ⟨hb.absent.closePair, fun _ => rfl, errCause_code_le .retryLimit⟩
    (fun _ hc => hc.condLegal hs hb) (fun bit _ _ hc => deliver_condLegal bit hc)

theorem fillStep_condLegal (d : Sample) {p : Params} {b : Bcsh} (hb : CondLegal p b) :
    CondLegal p (fillStep d b) := by
  rcases fillStep_cases d b with ⟨-, e⟩ | ⟨-, e⟩ <;> rw [e]
  · exact ⟨hb.absent, hb.idle, hb.errCode⟩
  · exact ⟨hb.absent, nofun, hb.errCode⟩

theorem hStartBcsh_condLegal {p : Params} {b : Bcsh} (hb : CondLegal p b) :
    CondLegal p (hStartBcsh p b) := by
  unfold hStartBcsh
  split <;> exact ⟨hb.absent, nofun, hb.errCode⟩

theorem SeqEffect.condLegal {p : Params} {accOut : Block} {d : Sample} {b c : Bcsh}
    (h : SeqEffect p accOut d b c) (hb : CondLegal p b) : CondLegal p c := by
  cases h with
  | idle | held => exact hb
  | fill => exact fillStep_condLegal d hb
  | corrector hs =>
    exact correctorStep_condLegal d (by rcases hs with hs | hs | hs | hs <;> simp [hs]) hb
  | start => exact hStartBcsh_condLegal hb
  | arm | clear | go => exact ⟨hb.absent, nofun, hb.errCode⟩
  | read => exact ⟨hb.absent.closePair, fun _ => rfl, hb.errCode⟩

theorem served_condLegal {p : Params} {b : Bcsh} (hb : CondLegal p b) :
    CondLegal p { b with prngDone := true } ∧ CondLegal p { b with aesIf := true } :=
  ⟨⟨hb.absent, hb.idle, hb.errCode⟩, ⟨hb.absent, hb.idle, hb.errCode⟩⟩

theorem reset_condLegal (p : Params) : CondLegal p (Bcsh.reset p) :=
  ⟨⟨fun _ => ⟨rfl, rfl, rfl⟩, fun _ => ⟨rfl, rfl, rfl⟩⟩, fun _ => rfl, Nat.zero_le 4⟩

/-- Settles O37: each effect of an access, of SEQ and of DISP keeps it. -/
theorem conditionerAndErrCodeStayLegal : Obligations.ConditionerAndErrCodeStayLegal :=
  fun s t hs h => (condAgrees_iff t).2 <| step_keeps_under_par (P := CondLegal) reset_condLegal
    AccessEffect.condLegal SeqEffect.condLegal served_condLegal ((condAgrees_iff s).1 hs) h

end Sys2Proof.Machine
end

section
/-! A harvest from H_ARM to its end: the seed, the launch under either clear order, and the delivery of
the block (43_harvest.md R163 to R172). -/

namespace Sys2Proof.Machine

theorem takeEvent_seq_of_hArm {s : State} (h : s.b.state = .hArm) (d : Sample) :
    takeEvent (.seq d) s = .next { s with b := hArmStep s.b } := by
  simp only [takeEvent, seqStep, h, SeqState.sampling, Bool.false_and, Bool.false_eq_true, if_false]

theorem takeEvent_seq_of_hClear {s : State} (h : s.b.state = .hClear) (d : Sample) :
    takeEvent (.seq d) s = .next { s with b := hClearStep s.b } := by
  simp only [takeEvent, seqStep, h, SeqState.sampling, Bool.false_and, Bool.false_eq_true, if_false]

/-- H_WAIT ends with PRNG_DONE (43_harvest.md R167). -/
theorem takeEvent_seq_of_hWait_done {s : State} (h : s.b.state = .hWait)
    (hd : s.b.prngDone = true) (d : Sample) :
    takeEvent (.seq d) s = .next { s with b := { s.b with state := .hRead } } := by
  simp only [takeEvent, seqStep, h, SeqState.sampling, Bool.false_and, Bool.false_eq_true, if_false,
    hWaitStep, hd, if_true]

theorem takeEvent_seq_of_hRead {s : State} (h : s.b.state = .hRead) (d : Sample) :
    takeEvent (.seq d) s = .next { s with b := hReadStep s.acc.out s.b } := by
  simp only [takeEvent, seqStep, h, SeqState.sampling, Bool.false_and, Bool.false_eq_true, if_false]

/-- With a Start received the block is PRNG_FN of its seed where that is given, and the draw where it
is not (43_harvest.md R170). -/
theorem completionBlock_of_start {a : Acc} {ev : StartEvent} (h : a.start = some ev) (p : Params)
    (o : Block) :
    completionBlock p a o = if p.prngFnGiven then Config.prngFn ev.seed else o := by
  rw [completionBlock, h]
  cases p.prngFnGiven <;> rfl

/-- The machine with a completion of block `o` pending (43_harvest.md R170). -/
def State.completed (o : Block) (s : State) : State :=
  { s with acc := { s.acc with out := o, prngIf := true, busy := false } }

/-- A busy accelerator that has received a Start completes with the block of its seed. -/
theorem takeEvent_accDone_of_start {s : State} {ev : StartEvent} (hbusy : s.acc.busy = true)
    (hstart : s.acc.start = some ev) (o : Block) :
    takeEvent (.accDone o) s =
      .next (s.completed (if s.par.prngFnGiven then Config.prngFn ev.seed else o)) := by
  rw [takeEvent, accDoneStep, if_pos hbusy, completionBlock_of_start hstart]
  rfl

/-- The machine after DISP has served the completion (43_harvest.md R172). -/
def State.prngServed (s : State) : State :=
  { s with b := { s.b with prngDone := true }, acc := { s.acc with prngIf := false } }

/-- A pending completion whose interrupt is enabled is the source DISP serves (43_harvest.md R172,
R173). -/
theorem takeEvent_disp_of_prng {s : State} (hp : s.acc.prngIf = true) (hie : s.b.accIe = true) :
    takeEvent .disp s = .next s.prngServed := by
  have hirq : s.accIrq = true := by simp [State.accIrq, hp, hie]
  rw [takeEvent, dispStep, if_pos hirq, if_pos hp]
  rfl

/-- The clear's own step: START_THEN_CLEAR has one after the start (43_harvest.md R165, R166). -/
def clearEvents (c : ClearOrder) (d : Sample) : List Event :=
  match c with
  | .clearThenStart => []
  | .startThenClear => [.seq d]

/-- The machine in H_WAIT with its seed sent and PRNG_DONE clear. -/
def State.launched (s : State) : State :=
  { s with
    b := { s.b with prngDone := false, sr := 0, state := .hWait }
    acc := s.acc.accept (startEvent s) }

/-- Under either clear order the launch ends the same (43_harvest.md R165, R166). -/
theorem takeEvents_launch {s : State} (hs : s.b.state = .hStart) (hidle : s.acc.busy = false)
    (d d' : Sample) :
    takeEvents (.seq d :: clearEvents s.par.clearOrder d') s = .next s.launched := by
  rw [takeEvents_cons_of_next
    ((takeEvent_seq_of_hStart hs d).trans (hStartStep_of_accIdle hidle))]
  cases horder : s.par.clearOrder with
  | clearThenStart =>
    rw [hStartBcsh, horder]
    rfl
  | startThenClear =>
    rw [hStartBcsh, horder, clearEvents, takeEvents_cons_of_next (takeEvent_seq_of_hClear rfl d')]
    rfl

/-- The end of a harvest: the completion of block `o` served and the block read (43_harvest.md
R168). -/
def State.delivered (o : Block) (s : State) : State :=
  { (s.completed o).prngServed with b := hReadStep o (s.completed o).prngServed.b }

/-- From H_WAIT the completion, one DISP step and two of SEQ deliver the block (43_harvest.md R167 to
R172). -/
theorem takeEvents_deliver {s : State} {ev : StartEvent} (hs : s.b.state = .hWait)
    (hie : s.b.accIe = true) (hbusy : s.acc.busy = true) (hstart : s.acc.start = some ev)
    (o : Block) (d d' : Sample) :
    takeEvents [.accDone o, .disp, .seq d, .seq d'] s =
      .next (s.delivered (if s.par.prngFnGiven then Config.prngFn ev.seed else o)) := by
  rw [takeEvents_cons_of_next (takeEvent_accDone_of_start hbusy hstart o)]
  generalize (if s.par.prngFnGiven then Config.prngFn ev.seed else o) = block
  rw [takeEvents_cons_of_next (takeEvent_disp_of_prng (s := s.completed block) rfl hie),
    takeEvents_cons_of_next
      (takeEvent_seq_of_hWait_done (s := (s.completed block).prngServed) hs rfl d),
    takeEvents_cons_of_next (takeEvent_seq_of_hRead rfl d')]
  rfl

/-- From H_START the seed is sent and the block that answers it delivered, under either clear order. -/
theorem takeEvents_launch_deliver {s : State} (hs : s.b.state = .hStart) (hie : s.b.accIe = true)
    (hidle : s.acc.busy = false) (o : Block) (d1 d2 d3 d4 : Sample) :
    takeEvents (.seq d1 :: (clearEvents s.par.clearOrder d2 ++
        [.accDone o, .disp, .seq d3, .seq d4])) s =
      .next (s.launched.delivered (if s.par.prngFnGiven then Config.prngFn s.b.sr else o)) := by
  rw [← List.cons_append, takeEvents_append_of_next (takeEvents_launch hs hidle d1 d2)]
  exact takeEvents_deliver (s := s.launched) (ev := startEvent s) rfl hie rfl rfl o d3 d4

/-- `c` is BCSH in H_START with the seed that the draws `ds` make from `b` in H_ARM (43_harvest.md R163,
R164): the seed's bits, the window, and what the making leaves as it was. -/
structure SeedMade (ds : List Sample) (b c : Bcsh) : Prop where
  state : c.state = .hStart
  bit : ∀ i (h : i < ds.length),
    c.sr.getLsbD (31 - i) = decide (ds[i].toNat ≤ windowSumAt b ds i / 32)
  oldestFirst : c.oldestFirst = ds
  cursor : c.cursor = b.cursor
  sumExact : c.sumExact
  op : c.op = b.op
  result : c.result = b.result
  accIe : c.accIe = true
  accClkEn : c.accClkEn = true

/-- 32 draws from H_ARM's step on make a seed. -/
theorem seedMade_takeBits (p : Params) {ds : List Sample} {b : Bcsh} (hsum : b.sumExact)
    (hlen : ds.length = 32) :
    SeedMade ds b { takeBits p ds (hArmStep b) with bitcnt := 0, state := .hStart } := by
  have hexact : (hArmStep b).sumExact := hsum
  have hfrom := takeBits_sampledFrom p ds (hArmStep b)
  obtain ⟨-, hop, -, -, hresult, -, -⟩ := hfrom.frame
  obtain ⟨hwindow, hcursor⟩ := takeBits_wholeWindow p hlen (hArmStep b)
  obtain ⟨hie, hclk⟩ : (takeBits p ds (hArmStep b)).accIe = true ∧
      (takeBits p ds (hArmStep b)).accClkEn = true := by
    rw [hfrom]
    exact ⟨rfl, rfl⟩
  refine ⟨rfl, fun i hi => ?_, hwindow, hcursor, takeBits_sumExact p ds hexact, hop, hresult,
    hie, hclk⟩
  have hbit := takeBits_sr_bit p ds hexact hlen.le hi
  rwa [hlen] at hbit

/-- From H_ARM 32 in-band draws make the seed and end in H_START. -/
theorem takeEvents_seed {s : State} {ds : List Sample} (hadc : s.adcConfigured = true)
    (hs : s.b.state = .hArm) (hvn : VnOff s.par s.b) (hsum : s.b.sumExact)
    (hband : ∀ x ∈ ds, s.b.bandLo.toNat ≤ x.toNat ∧ x.toNat ≤ s.b.bandHi.toNat)
    (hlen : ds.length = 32) (d : Sample) :
    ∃ c, takeEvents (.seq d :: ds.map .seq) s = .next { s with b := c } ∧ SeedMade ds s.b c := by
  have hstate : (takeBits s.par ds (hArmStep s.b)).state = .hSeed :=
    (takeBits_sampledFrom s.par ds (hArmStep s.b)).frame.1
  refine ⟨_, ?_, seedMade_takeBits s.par hsum hlen⟩
  rw [takeEvents_cons_of_next (takeEvent_seq_of_hArm hs d),
    takeEvents_wholeWord (s := { s with b := hArmStep s.b }) hadc (by simp) hvn hband rfl hlen,
    wordDone_of_hSeed hstate]

/-- Settles O44: the seed is a whole word, which H_START sends, and the block that answers it comes back
in H_READ. -/
theorem harvestDeliversTheBlock : Obligations.HarvestDeliversTheBlock := by
  intro s ds o d0 d1 d2 d3 d4 hadc hcond hs hsum hidle hlen hband
  obtain ⟨c, hseed, hc⟩ :=
    takeEvents_seed hadc hs ((vnOff_iff s.par s.b).2 hcond) hsum hband hlen d0
  have hblock := takeEvents_launch_deliver (s := { s with b := c }) hc.state hc.accIe hidle
    o d1 d2 d3 d4
  refine ⟨_, c.sr, (takeEvents_append_of_next hseed _).trans hblock, hc.bit, rfl, rfl, rfl, ?_,
    hc.oldestFirst, hc.cursor, hc.sumExact, rfl, rfl, rfl, hc.accClkEn, rfl, rfl⟩
  rw [← hc.op, ← hc.result]
  rfl

end Sys2Proof.Machine
end

section
/-! INIT in IDLE, before and after initialization, and the fill it starts (42_init.md R150 to R152). -/

namespace Sys2Proof.Machine

/-- In IDLE either format of INIT is accepted, whatever INIT_DONE is (45_register_access.md R201). -/
theorem exec_init_of_idle {i : Instr} (hi : i ∈ [Instr.init, .wrCmd 1#32]) {s : State}
    (hidle : s.b.state = .idle) : exec i s = .next (s.answer .done s.b.acceptInit) := by
  have haccept : s.b.issue false Bcsh.acceptInit = s.b.acceptInit :=
    issue_of_idle (n := false) hidle nofun Bcsh.acceptInit
  rw [exec_of_mem_formats (o := .init) hi (by decide), ← haccept]
  rfl

theorem acceptInit_of_notInit {b : Bcsh} (hd : b.initDone = false) :
    b.acceptInit = { b.startCommand 1 .initFill with fillIdx := 0 } := by
  rw [Bcsh.acceptInit, hd, if_neg Bool.false_ne_true]

theorem acceptInit_of_initDone {b : Bcsh} (hd : b.initDone = true) :
    b.acceptInit = Bcsh.complete { b with errCode := ErrCause.none.code } := by
  rw [Bcsh.acceptInit, if_pos hd]

theorem opAgrees_of_idle {b : Bcsh} (hs : b.state = .idle) : b.opAgrees ↔ b.op = 0 := by
  simp only [Bcsh.opAgrees, hs]

/-- With nothing under way, `complete()` raises DONEIF and nothing more (45_register_access.md R208). -/
theorem complete_of_rest {b : Bcsh} (hs : b.state = .idle) (hop : b.op = 0) (hbitcnt : b.bitcnt = 0)
    (hidx : b.fillIdx = 0) (hph : b.vnph = false) : b.complete = { b with doneIf := true } := by
  rw [Bcsh.complete, hs, hop, hbitcnt, hidx, hph]

/-- Settles O13: the acceptance completes at once, and by the invariants of IDLE what `complete()`
clears is clear already. -/
theorem initAgainCompletesAtOnce : Obligations.InitAgainCompletesAtOnce := by
  intro s i hidle hd hopAgrees hwordAgrees hcond hi
  have hop : s.b.op = 0 := (opAgrees_of_idle hidle).1 hopAgrees
  obtain ⟨-, hbitcnt, hidx⟩ := (wordAgrees_of_rest (by simp [hidle])).1 hwordAgrees
  have hph : s.b.vnph = false := ((condAgrees_iff s).1 hcond).idle hidle
  rw [exec_init_of_idle hi hidle, acceptInit_of_initDone hd,
    complete_of_rest (b := { s.b with errCode := ErrCause.none.code }) hidle hop hbitcnt hidx hph]
  rfl

/-- Settles O41: it is the run of the whole fill, with FILLIDX counting the slots. -/
theorem fillPlacesTheSamplesInOrder : Obligations.FillPlacesTheSamplesInOrder :=
  fun _ _ => takeEvents_fill

/-- Settles O12: INIT is accepted, and with INIT_DONE = 0 the acceptance is the start of the fill. -/
theorem initStartsTheFill : Obligations.InitStartsTheFill := by
  intro s i hidle hd hi
  rw [exec_init_of_idle hi hidle, acceptInit_of_notInit hd]
  rfl

end Sys2Proof.Machine
end

section
/-! The steps of DISP and of the accelerator, and the harvest steps of SEQ after its Start
(43_harvest.md R166 to R173). -/

namespace Sys2Proof.Machine

/-- The interrupt line, source by source (10_state.md R44). -/
theorem accIrq_iff (s : State) : s.accIrq = true ↔
    (s.acc.prngIf = true ∧ s.b.accIe = true) ∨ (s.acc.aesIf = true ∧ s.acc.aesIe = true) := by
  simp only [State.accIrq, Bool.or_eq_true, Bool.and_eq_true]

/-- Where the line is 1 and the engine has nothing pending, it is the AES engine that has. -/
theorem aesIf_of_accIrq {s : State} (hirq : s.accIrq = true) (hp : s.acc.prngIf = false) :
    s.acc.aesIf = true := by
  rcases (accIrq_iff s).1 hirq with ⟨hprng, -⟩ | ⟨haes, -⟩
  · exact Bool.noConfusion (hprng.symm.trans hp)
  · exact haes

theorem dispStep_of_noIrq {s : State} (hirq : s.accIrq = false) : dispStep s = s := by
  rw [dispStep, hirq, if_neg Bool.false_ne_true]

theorem dispStep_of_prng {s : State} (hirq : s.accIrq = true) (hp : s.acc.prngIf = true) :
    dispStep s = s.prngServed := by
  rw [dispStep, if_pos hirq, if_pos hp]
  rfl

theorem dispStep_of_aes {s : State} (hirq : s.accIrq = true) (hp : s.acc.prngIf = false) :
    dispStep s =
      { s with b := { s.b with aesIf := true }, acc := { s.acc with aesIf := false } } := by
  rw [dispStep, if_pos hirq, hp, if_neg Bool.false_ne_true, if_pos (aesIf_of_accIrq hirq hp)]

/-- Settles O49: by the line, then by the engine's pending bit. -/
theorem dispServesOneSourcePrngFirst : Obligations.DispServesOneSourcePrngFirst := by
  intro s
  refine congrArg Host.Outcome.next ?_
  by_cases hirq : s.accIrq = true
  · rw [if_pos ((accIrq_iff s).1 hirq)]
    cases hp : s.acc.prngIf with
    | false => rw [dispStep_of_aes hirq hp, if_neg Bool.false_ne_true]
    | true =>
      rw [dispStep_of_prng hirq hp, if_pos rfl]
      rfl
  · rw [if_neg (mt (accIrq_iff s).2 hirq), dispStep_of_noIrq (Bool.eq_false_of_not_eq_true hirq)]

/-- Without PRNG_FN the block is the draw (43_harvest.md R170). -/
theorem completionBlock_of_noFn {p : Params} (h : p.prngFnGiven = false) (a : Acc) (o : Block) :
    completionBlock p a o = o := by
  rw [completionBlock, h]

/-- A busy accelerator completes, whatever its block is (43_harvest.md R170). -/
theorem takeEvent_accDone_of_busy {s : State} (hbusy : s.acc.busy = true) (o : Block) :
    takeEvent (.accDone o) s = .next (s.completed (completionBlock s.par s.acc o)) := by
  rw [takeEvent, accDoneStep, if_pos hbusy]
  rfl

theorem accDoneStep_of_idle {a : Acc} (h : a.busy = false) (p : Params) (o : Block) :
    accDoneStep p o a = a := by
  rw [accDoneStep, h, if_neg Bool.false_ne_true]

/-- Settles O50: a completion while busy, by PRNG_FN; one while idle; and the two AES events. -/
theorem acceleratorCompletesAndRaisesAes : Obligations.AcceleratorCompletesAndRaisesAes := by
  intro s o on ev
  refine ⟨fun hbusy hfn => ?_, fun hbusy hfn hstart => ?_, fun hidle => ?_, rfl, rfl⟩
  · rw [takeEvent_accDone_of_busy hbusy, completionBlock_of_noFn hfn]
    rfl
  · rw [takeEvent_accDone_of_start hbusy hstart, if_pos hfn]
    rfl
  · rw [takeEvent, accDoneStep_of_idle hidle]

/-- H_WAIT has no step with PRNG_DONE = 0 (43_harvest.md R167). -/
theorem takeEvent_seq_of_hWait_held {s : State} (h : s.b.state = .hWait)
    (hd : s.b.prngDone = false) (d : Sample) : takeEvent (.seq d) s = .next s := by
  simp only [takeEvent, seqStep, h, SeqState.sampling, Bool.false_and, Bool.false_eq_true, if_false,
    hWaitStep, hd]

/-- Settles O45: SEQ's step in each of the three states. -/
theorem armClearAndWaitSteps : Obligations.ArmClearAndWaitSteps :=
  fun _ d => ⟨fun hs => takeEvent_seq_of_hArm hs d, fun hs => takeEvent_seq_of_hClear hs d,
    fun hs hd => takeEvent_seq_of_hWait_done hs hd d,
    fun hs hd => takeEvent_seq_of_hWait_held hs hd d⟩

/-- Settles O47: H_READ's step, with the command complete. -/
theorem readTakesTheWholeBlock : Obligations.ReadTakesTheWholeBlock :=
  fun _ d hs => takeEvent_seq_of_hRead hs d

end Sys2Proof.Machine
end

section
/-! The completion a harvest waits for (43_harvest.md R167, R174, R180): no event loses it but a clear
after the Start, none but DISP records it, and without it only the reset ends H_WAIT. -/

namespace Sys2Proof.Machine

/-- A completion of the engine is coming, pending or recorded (43_harvest.md R180). -/
def State.completionComing (s : State) : Prop :=
  s.acc.busy = true ∨ s.acc.prngIf = true ∨ s.b.prngDone = true

/-- A hang is an H_WAIT with no completion coming (60_exceptions.md R238). -/
theorem hung_iff (s : State) : s.hung ↔ s.b.state = .hWait ∧ ¬ s.completionComing := by
  simp only [State.hung, State.completionComing, not_or, Bool.not_eq_true]
  tauto

theorem completionComing_congr {s t : State} (hacc : t.acc = s.acc)
    (hdone : t.b.prngDone = s.b.prngDone) : t.completionComing ↔ s.completionComing := by
  rw [State.completionComing, State.completionComing, hacc, hdone]

/-- DISP moves a completion from pending to recorded (43_harvest.md R172). -/
theorem dispStep_completionComing_iff (s : State) :
    (dispStep s).completionComing ↔ s.completionComing := by
  rcases dispStep_cases s with ⟨hp, e⟩ | ⟨-, -, e⟩ | ⟨-, e⟩ <;> rw [e]
  · exact ⟨fun _ => .inr (.inl hp), fun _ => .inr (.inr rfl)⟩
  · exact Iff.rfl

/-- The accelerator moves a completion from coming to pending (43_harvest.md R170). -/
theorem accDoneStep_completion_iff (p : Params) (o : Block) (a : Acc) :
    (accDoneStep p o a).busy = true ∨ (accDoneStep p o a).prngIf = true ↔
      a.busy = true ∨ a.prngIf = true := by
  cases hbusy : a.busy with
  | false => rw [accDoneStep_of_idle hbusy, hbusy]
  | true =>
    rw [accDoneStep, if_pos hbusy]
    exact ⟨fun _ => .inl rfl, fun _ => .inr rfl⟩

/-- Outside H_START and H_CLEAR no event but the reset makes a completion or loses one. -/
theorem takeEvent_completionComing_iff {e : Event} {s t : State} (h : takeEvent e s = .next t)
    (hreset : e ≠ .reset) (hstart : s.b.state ≠ .hStart) (hclear : s.b.state ≠ .hClear) :
    t.completionComing ↔ s.completionComing := by
  rcases takeEvent_cases h with
    ⟨u, sw, ⟨heff, hu⟩, rfl, -⟩ | ⟨d, -, hseq⟩ | ⟨-, rfl⟩ | ⟨hacc, ht⟩ | ⟨rfl, -⟩
  · have huacc : u.acc = s.acc := by
      rw [hu]
      rfl
    exact completionComing_congr huacc heff.outputs_eq.1
  · obtain ⟨heff, ⟨-, ht⟩ | ⟨hs, -⟩⟩ := seqStep_cases hseq
    · have htacc : t.acc = s.acc := by rw [ht]
      rcases heff.prngDone_cases with hdone | ⟨-, hs | hs⟩
      · exact completionComing_congr htacc hdone
      · exact absurd hs hstart
      · exact absurd hs hclear
    · exact absurd hs hstart
  · exact dispStep_completionComing_iff s
  · have hb : t.b = s.b := by rw [ht]
    rw [State.completionComing, State.completionComing, hb]
    rcases hacc with ⟨o, -, e⟩ | ⟨-, e⟩ | ⟨on, -, e⟩ <;> rw [e]
    · rw [← or_assoc, accDoneStep_completion_iff, or_assoc]
    · exact Iff.rfl
    · exact Iff.rfl
  · exact absurd rfl hreset

/-- No access moves SEQ while a command is in progress (45_register_access.md R201). -/
theorem AccessEffect.state_eq_of_busy {p : Params} {b c : Bcsh} (h : AccessEffect p b c)
    (hs : b.state ≠ .idle) : c.state = b.state := by
  cases h with
  | same | illegal | busy | ctrl | intsts | band => rfl
  | notInit hidle | initAgain hidle | fillStart _ _ hidle | bitStart hidle | wordStart hidle
  | armStart _ _ hidle => exact absurd hidle hs

/-- The harvest states past the Start (43_harvest.md R166 to R168). -/
def SeqState.pastStart : SeqState → Bool
  | .hClear => true
  | .hWait => true
  | .hRead => true
  | _ => false

/-- No access puts SEQ into a harvest state past its Start: a harvest starts in H_ARM. -/
theorem AccessEffect.state_eq_of_pastStart {p : Params} {b c : Bcsh} (h : AccessEffect p b c)
    (hc : c.state.pastStart = true) : c.state = b.state := by
  cases h with
  | same | illegal | busy | notInit | ctrl | intsts | band => rfl
  | initAgain | fillStart | bitStart | wordStart | armStart => exact absurd hc Bool.false_ne_true

theorem endOfInit_not_pastStart {b : Bcsh} (hb : b.state.pastStart = false) :
    (endOfInit b).state.pastStart = false := by
  rcases endOfInit_cases b with ⟨-, e⟩ | ⟨-, e⟩ | ⟨-, -, e⟩ <;> rw [e]
  · rfl
  · rfl
  · exact hb

/-- A delivered bit goes no further in a harvest than H_START (41_aggregator_conditioner.md R133). -/
theorem deliver_not_pastStart (bit : Bool) {b : Bcsh} (hb : b.state.pastStart = false) :
    (deliver bit b).state.pastStart = false := by
  rcases deliver_cases bit b with
    ⟨-, e⟩ | ⟨-, -, e⟩ | ⟨-, -, e⟩ | ⟨-, -, e⟩ | ⟨-, -, e⟩ | ⟨-, e⟩ <;> rw [e]
  · rfl
  · exact hb
  · exact endOfInit_not_pastStart (b := (shiftIn bit b).wordStart) hb
  · rfl
  · rfl
  · exact hb

theorem correctorStep_not_pastStart (p : Params) (d : Sample) {b : Bcsh}
    (hb : b.state.pastStart = false) : (correctorStep p d b).state.pastStart = false := by
  refine correctorStep_induction (P := fun c => c.state.pastStart = false) hb rfl
    (fun c hc => ?_) (fun bit _ _ hc => deliver_not_pastStart bit hc)
  rwa [hc.frame.1]

theorem fillStep_not_pastStart (d : Sample) {b : Bcsh} (hb : b.state.pastStart = false) :
    (fillStep d b).state.pastStart = false := by
  rcases fillStep_cases d b with ⟨-, e⟩ | ⟨-, e⟩ <;> rw [e]
  · exact hb
  · rfl

/-- SEQ comes into a harvest state past its Start from H_START, from H_CLEAR, or from H_WAIT with
PRNG_DONE = 1 (43_harvest.md R165 to R167). -/
theorem SeqEffect.pastStart_cases {p : Params} {accOut : Block} {d : Sample} {b c : Bcsh}
    (h : SeqEffect p accOut d b c) (hc : c.state.pastStart = true) :
    c.state = b.state ∨ b.state = .hStart ∨ b.state = .hClear ∨
      (b.state = .hWait ∧ b.prngDone = true ∧ c.state = .hRead) := by
  cases h with
  | idle | held => exact .inl rfl
  | fill hs =>
    rw [fillStep_not_pastStart d (by rw [hs]; rfl)] at hc
    exact absurd hc Bool.false_ne_true
  | corrector hs =>
    have hbefore : b.state.pastStart = false := by rcases hs with hs | hs | hs | hs <;> rw [hs] <;> rfl
    rw [correctorStep_not_pastStart p d hbefore] at hc
    exact absurd hc Bool.false_ne_true
  | arm | read => exact absurd hc Bool.false_ne_true
  | start hs => exact .inr (.inl hs)
  | clear hs => exact .inr (.inr (.inl hs))
  | go hs hd => exact .inr (.inr (.inr ⟨hs, hd, rfl⟩))

/-- So does the machine, by a SEQ step only. -/
theorem takeEvent_pastStart_cases {e : Event} {s t : State} (h : takeEvent e s = .next t)
    (ht : t.b.state.pastStart = true) :
    t.b.state = s.b.state ∨ (s.b.state = .hStart ∧ ∃ d, e = .seq d) ∨ s.b.state = .hClear ∨
      (s.b.state = .hWait ∧ s.b.prngDone = true ∧ t.b.state = .hRead) := by
  have heff := takeEvent_eventEffect h
  generalize t.b = c at heff ht ⊢
  cases heff with
  | none | prngServed | aesServed => exact .inl rfl
  | access ha => exact .inl (ha.state_eq_of_pastStart ht)
  | @seq _ d _ hq =>
    rcases hq.pastStart_cases ht with hs | hs | hrest
    · exact .inl hs
    · exact .inr (.inl ⟨hs, d, rfl⟩)
    · exact .inr (.inr hrest)
  | reset => exact absurd ht Bool.false_ne_true

/-- `completionAhead`, with the completion named. -/
theorem completionAhead_iff (s : State) : s.completionAhead ↔
    (s.par.clearOrder = .clearThenStart → s.b.state ≠ .hClear ∧
      (s.b.state = .hWait → s.completionComing) ∧ (s.b.state = .hRead → s.b.prngDone = true)) :=
  Iff.rfl

/-- Before its Start a harvest waits for nothing. -/
theorem completionAhead_of_not_pastStart {s : State} (hs : s.b.state.pastStart = false) :
    s.completionAhead := by
  intro _
  refine ⟨fun h => ?_, fun h => ?_, fun h => ?_⟩ <;>
  · rw [h] at hs
    exact absurd hs.symm Bool.false_ne_true

/-- Under CLEAR_THEN_START the Start that ends H_START is the completion that is coming. -/
theorem takeEvent_hStart_completionAhead {d : Sample} {s t : State}
    (h : takeEvent (.seq d) s = .next t) (hs : s.b.state = .hStart) : t.completionAhead := by
  obtain ⟨-, ⟨hne, -⟩ | ⟨-, hidle, -⟩⟩ := seqStep_cases h
  · exact absurd hs hne
  intro horder
  rw [takeEvent_par h] at horder
  have hlaunch := (startSendsTheSeed s d hs).1 hidle horder
  rw [h] at hlaunch
  cases hlaunch
  exact ⟨by simp, fun _ => .inl rfl, by simp⟩

/-- Outside H_START and H_CLEAR PRNG_DONE falls at the reset only (10_state.md R37). -/
theorem takeEvent_keeps_prngDone {e : Event} {s t : State} (h : takeEvent e s = .next t)
    (hreset : e ≠ .reset) (hstart : s.b.state ≠ .hStart) (hclear : s.b.state ≠ .hClear)
    (hd : s.b.prngDone = true) : t.b.prngDone = true := by
  by_contra ht
  rcases (prngDoneIsSetByDispClearedBySeq e s t h).2 hd (Bool.eq_false_of_not_eq_true ht) with
    he | ⟨-, hs | hs⟩
  · exact hreset he
  · exact hstart hs
  · exact hclear hs

/-- Every event keeps `completionAhead`: past the Start SEQ stays and what it waits for stays with it,
or it has just sent the Start, or it goes on to H_READ with the completion recorded. -/
theorem takeEvent_completionAhead {e : Event} {s t : State} (h : takeEvent e s = .next t)
    (hs : s.completionAhead) : t.completionAhead := by
  cases ht : t.b.state.pastStart
  case false => exact completionAhead_of_not_pastStart ht
  have hreset : e ≠ .reset := by
    rintro rfl
    cases h
    exact absurd ht Bool.false_ne_true
  rcases takeEvent_pastStart_cases h ht with hstay | ⟨hstart, d, rfl⟩ | hclear | ⟨hwait, hd, hread⟩
  · intro horder
    obtain ⟨hclear, hwait, hread⟩ := (completionAhead_iff s).1 hs (takeEvent_par h ▸ horder)
    have hstart : s.b.state ≠ .hStart := by
      intro hb
      rw [hstay, hb] at ht
      exact absurd ht Bool.false_ne_true
    rw [hstay]
    exact ⟨hclear, fun hw => (takeEvent_completionComing_iff h hreset hstart hclear).2 (hwait hw),
      fun hr => takeEvent_keeps_prngDone h hreset hstart hclear (hread hr)⟩
  · exact takeEvent_hStart_completionAhead h hstart
  · intro horder
    exact absurd hclear (hs (takeEvent_par h ▸ horder)).1
  · have hdone := takeEvent_keeps_prngDone h hreset (by simp [hwait]) (by simp [hwait]) hd
    exact fun _ => ⟨by simp [hread], by simp [hread], fun _ => hdone⟩

/-- Settles O38: each event keeps it, and a hang is an H_WAIT without it. -/
theorem noCompletionIsLostUnderClearThenStart :
    Obligations.NoCompletionIsLostUnderClearThenStart := by
  refine ⟨fun s t hs h => ?_, fun s hs horder hhung => ?_⟩
  · obtain ⟨e, s', he, hpar, hb, hacc, -⟩ := step_cases h
    refine takeEvent_completionAhead he ?_
    rwa [State.completionAhead, hpar, hb, hacc]
  · obtain ⟨hwait, hnone⟩ := (hung_iff s).1 hhung
    exact hnone ((hs horder).2.1 hwait)

/-- While PRNG_DONE = 0 no event but the reset ends H_WAIT (43_harvest.md R167). -/
theorem takeEvent_keeps_wait {e : Event} {s t : State} (h : takeEvent e s = .next t)
    (hs : s.b.state = .hWait) (hd : s.b.prngDone = false) (hreset : e ≠ .reset) :
    t.b.state = .hWait := by
  have heff := takeEvent_eventEffect h
  generalize hc : t.b = c at heff ⊢
  cases heff with
  | none | prngServed | aesServed => exact hs
  | access ha => exact (ha.state_eq_of_busy (by simp [hs])).trans hs
  | seq =>
    rw [takeEvent_seq_of_hWait_held hs hd] at h
    cases h
    rw [← hc, hs]
  | reset => exact absurd rfl hreset

/-- DISP records a completion that is pending while the line is 1 (43_harvest.md R172). -/
theorem dispStep_prngDone (s : State) :
    (dispStep s).b.prngDone = (s.b.prngDone || (s.accIrq && s.acc.prngIf)) := by
  cases hirq : s.accIrq with
  | false => rw [dispStep_of_noIrq hirq, Bool.false_and, Bool.or_false]
  | true =>
    cases hp : s.acc.prngIf with
    | false => rw [dispStep_of_aes hirq hp, Bool.and_false, Bool.or_false]
    | true => rw [dispStep_of_prng hirq hp, Bool.and_self, Bool.or_true, State.prngServed]

/-- PRNG_DONE becomes 1 exactly in such a step of DISP (10_state.md R37). -/
theorem takeEvent_sets_prngDone_iff {e : Event} {s t : State} (h : takeEvent e s = .next t)
    (hd : s.b.prngDone = false) :
    t.b.prngDone = true ↔ e = .disp ∧ s.accIrq = true ∧ s.acc.prngIf = true := by
  have served (he : e = .disp) : t.b.prngDone = (s.accIrq && s.acc.prngIf) := by
    subst he
    cases h
    rw [dispStep_prngDone, hd, Bool.false_or]
  refine ⟨fun ht => ?_, fun ⟨he, hirq, hp⟩ => ?_⟩
  · have he := (prngDoneIsSetByDispClearedBySeq e s t h).1 hd ht
    rw [served he, Bool.and_eq_true] at ht
    exact ⟨he, ht⟩
  · rw [served he, hirq, hp, Bool.and_self]

/-- Settles O48: what does not set PRNG_DONE does not end the wait. -/
theorem onlyTheRightCompletionEndsTheWait : Obligations.OnlyTheRightCompletionEndsTheWait :=
  fun _ _ _ hs hd h hreset =>
    ⟨takeEvent_keeps_wait h hs hd hreset, takeEvent_sets_prngDone_iff h hd⟩

/-- Settles O52: the wait goes on, and still no completion is coming. -/
theorem onlyResetEndsAHang : Obligations.OnlyResetEndsAHang := by
  intro e s t hs h
  obtain ⟨hwait, hdone, -, -⟩ := id hs
  refine ⟨fun hreset => (hung_iff t).2 ⟨takeEvent_keeps_wait h hwait hdone hreset, ?_⟩, ?_⟩
  · rw [takeEvent_completionComing_iff h hreset (by simp [hwait]) (by simp [hwait])]
    exact ((hung_iff s).1 hs).2
  · rintro rfl
    cases h
    rfl

end Sys2Proof.Machine
end

section
/-! The completion lost under START_THEN_CLEAR (43_harvest.md R180), and the acceptance of GET_WORD
(R175). -/

namespace Sys2Proof.Machine

/-- Under START_THEN_CLEAR the Start is sent with PRNG_DONE still to be cleared (43_harvest.md R165). -/
def State.startedBeforeClear (s : State) : State :=
  { s with b := { s.b with sr := 0, state := .hClear }, acc := s.acc.accept (startEvent s) }

theorem takeEvent_seq_startsBeforeClear {s : State} (horder : s.par.clearOrder = .startThenClear)
    (hs : s.b.state = .hStart) (hidle : s.acc.busy = false) (d : Sample) :
    takeEvent (.seq d) s = .next s.startedBeforeClear :=
  (startSendsTheSeed s d hs).2.1 hidle horder

/-- Settles O51: the clear that follows the DISP step takes back the only record of the completion. -/
theorem completionIsLostUnderStartThenClear :
    Obligations.CompletionIsLostUnderStartThenClear := by
  intro s o d d' horder hs hie hidle
  rw [takeEvents_cons_of_next (takeEvent_seq_startsBeforeClear horder hs hidle d),
    takeEvents_cons_of_next (takeEvent_accDone_of_busy (s := s.startedBeforeClear) rfl o),
    takeEvents_cons_of_next
      (takeEvent_disp_of_prng (s := s.startedBeforeClear.completed _) rfl hie),
    takeEvents_cons_of_next
      (takeEvent_seq_of_hClear (s := (s.startedBeforeClear.completed _).prngServed) rfl d')]
  exact ⟨_, rfl, rfl, rfl, rfl, rfl⟩

/-- In IDLE either format of GET_WORD is accepted, whatever INIT_DONE is (43_harvest.md R175). -/
theorem exec_getWord_of_idle {i : Instr} (hi : i ∈ [Instr.getWord, .wrCmd 5#32]) {s : State}
    (hidle : s.b.state = .idle) : exec i s = .next (s.answer .done s.b.acceptGetWord) := by
  have haccept : s.b.issue false Bcsh.acceptGetWord = s.b.acceptGetWord :=
    issue_of_idle (n := false) hidle nofun Bcsh.acceptGetWord
  rw [exec_of_mem_formats (o := .getWord) hi (by decide), ← haccept]
  rfl

/-- Settles O15: GET_WORD is accepted, and its acceptance starts the harvest or the fill. -/
theorem getWordIsAcceptedWithOrWithoutInit : Obligations.GetWordIsAcceptedWithOrWithoutInit :=
  fun _ _ hidle hi => exec_getWord_of_idle hi hidle

end Sys2Proof.Machine
end

section
/-! A call of the HOST software (44_host_protocol.md R191, R196). -/

namespace Sys2Proof.Machine

/-- A call of poll with length 0 between calls: the request is noted, and the poll has returned. -/
theorem HostSw.call_poll_zero {sw : HostSw} (hidle : sw.pc = .idle) (dest : Nat) :
    sw.call (.poll dest 0) =
      { sw with dest := dest, len := 0, off := 0, actualLen := 0, success := true } := by
  rw [HostSw.call, if_neg (not_not.2 hidle)]
  exact if_pos rfl

/-- A call is the software's step alone. -/
theorem takeEvent_call (c : HostCall) (s : State) :
    takeEvent (.call c) s = .next { s with sw := s.sw.call c } := rfl

/-- Settles O58: the call changes the software's variables only, and with length 0 it returns at
once, without going through the sequence of R192. -/
theorem pollOfZeroBytesTouchesNothing : Obligations.PollOfZeroBytesTouchesNothing := by
  intro s dest hidle
  refine ⟨_, takeEvent_call (.poll dest 0) s, ?_⟩
  rw [HostSw.call_poll_zero hidle]
  exact ⟨hidle, rfl, rfl, rfl, rfl⟩

end Sys2Proof.Machine
end

section
/-! The read rows (45_register_access.md R210 to R223): a register's word as the sum of its fields, each
times the weight of its place. -/

namespace Sys2Proof.Machine

/-- A field alone at its place. -/
theorem field_toNat {w : Nat} (v : BitVec w) {n : Nat} (hfit : n + w ≤ 32) :
    (v.setWidth 32 <<< n : Word).toNat = 2 ^ n * v.toNat := by
  have hlt : 2 ^ n * v.toNat < 2 ^ 32 :=
    calc 2 ^ n * v.toNat < 2 ^ n * 2 ^ w := Nat.mul_lt_mul_of_pos_left v.isLt (Nat.two_pow_pos n)
      _ = 2 ^ (n + w) := (Nat.pow_add 2 n w).symm
      _ ≤ 2 ^ 32 := Nat.pow_le_pow_right Nat.two_pos hfit
  rw [BitVec.toNat_shiftLeft, BitVec.toNat_setWidth_of_le (by omega), Nat.shiftLeft_eq,
    Nat.mul_comm, Nat.mod_eq_of_lt hlt]

/-- A field put below the others adds its weighted value: the fields above it are a multiple of the
first weight over its place, so no two bits meet. -/
theorem or_field_toNat {a : Word} {x w : Nat} (ha : a.toNat = x) (v : BitVec w) {n : Nat}
    (hfit : n + w ≤ 32) (habove : 2 ^ (n + w) ∣ x) :
    (a ||| v.setWidth 32 <<< n).toNat = x + 2 ^ n * v.toNat := by
  obtain ⟨y, rfl⟩ := habove
  have hlt : 2 ^ n * v.toNat < 2 ^ (n + w) := by
    rw [Nat.pow_add]
    exact Nat.mul_lt_mul_of_pos_left v.isLt (Nat.two_pow_pos n)
  rw [BitVec.toNat_or, ha, field_toNat v hfit, Nat.two_pow_add_eq_or_of_lt hlt]

theorem bitAt_toNat (v : Bool) {n : Nat} (hn : n < 32) : (bitAt v n).toNat = 2 ^ n * v.toNat := by
  rw [bitAt, field_toNat _ hn, BitVec.toNat_ofBool]

/-- `or_field_toNat` for a field of one bit. -/
theorem or_bitAt_toNat {a : Word} {x : Nat} (ha : a.toNat = x) (v : Bool) {n : Nat} (hn : n < 32)
    (habove : 2 ^ (n + 1) ∣ x) : (a ||| bitAt v n).toNat = x + 2 ^ n * v.toNat := by
  rw [bitAt, or_field_toNat ha _ hn habove, BitVec.toNat_ofBool]

theorem statusValue_toNat (b : Bcsh) :
    (statusValue b).toNat =
      65536 * b.state.code.toNat + 256 * b.errCode.toNat + 16 * b.accIe.toNat
        + 8 * b.accClkEn.toNat + 4 * b.prngDone.toNat + 2 * b.initDone.toNat + b.busy.toNat := by
  have state := field_toNat b.state.code (n := 16) (by omega)
  have errCode := or_field_toNat state b.errCode (n := 8) (by omega) (by omega)
  have accIe := or_bitAt_toNat errCode b.accIe (n := 4) (by omega) (by omega)
  have accClkEn := or_bitAt_toNat accIe b.accClkEn (n := 3) (by omega) (by omega)
  have prngDone := or_bitAt_toNat accClkEn b.prngDone (n := 2) (by omega) (by omega)
  have initDone := or_bitAt_toNat prngDone b.initDone (n := 1) (by omega) (by omega)
  have busy := or_bitAt_toNat initDone b.busy (n := 0) (by omega) (by omega)
  rw [statusValue, busy]
  omega

theorem ctrlValue_toNat (p : Params) (b : Bcsh) :
    (ctrlValue p b).toNat =
      32 * (p.hasRct && b.rcten).toNat + 16 * (p.hasVn && b.vnen).toNat + 8 * b.aesIe.toNat
        + 4 * b.hlthIe.toNat + 2 * b.errIe.toNat + b.doneIe.toNat := by
  have rcten := bitAt_toNat (p.hasRct && b.rcten) (n := 5) (by omega)
  have vnen := or_bitAt_toNat rcten (p.hasVn && b.vnen) (n := 4) (by omega) (by omega)
  have aesIe := or_bitAt_toNat vnen b.aesIe (n := 3) (by omega) (by omega)
  have hlthIe := or_bitAt_toNat aesIe b.hlthIe (n := 2) (by omega) (by omega)
  have errIe := or_bitAt_toNat hlthIe b.errIe (n := 1) (by omega) (by omega)
  have doneIe := or_bitAt_toNat errIe b.doneIe (n := 0) (by omega) (by omega)
  rw [ctrlValue, doneIe]
  omega

theorem intstsValue_toNat (b : Bcsh) :
    (intstsValue b).toNat =
      8 * b.aesIf.toNat + 4 * b.hlthIf.toNat + 2 * b.errIf.toNat + b.doneIf.toNat := by
  have aesIf := bitAt_toNat b.aesIf (n := 3) (by omega)
  have hlthIf := or_bitAt_toNat aesIf b.hlthIf (n := 2) (by omega) (by omega)
  have errIf := or_bitAt_toNat hlthIf b.errIf (n := 1) (by omega) (by omega)
  have doneIf := or_bitAt_toNat errIf b.doneIf (n := 0) (by omega) (by omega)
  rw [intstsValue, doneIf]
  omega

theorem busy_toNat (b : Bcsh) : b.busy.toNat = if b.state = .idle then 0 else 1 := by
  by_cases hidle : b.state = .idle <;> simp [Bcsh.busy, hidle]

/-- Settles O17: the word of STATUS is the sum of its fields, STATE by the table of its codes. -/
theorem statusReadsItsFields : Obligations.StatusReadsItsFields := by
  intro s
  refine ⟨statusValue s.b, rfl, ?_⟩
  rw [statusValue_toNat, busy_toNat]
  cases s.b.state <;> rfl

/-- The weighted enable of a unit reads 0 where the unit does not exist
(41_aggregator_conditioner.md R135). -/
theorem mul_unitEnable_toNat (k : Nat) (unit en : Bool) :
    k * (unit && en).toNat = if unit = true then k * en.toNat else 0 := by
  cases unit <;> simp

/-- Settles O18: the words of CTRL and INTSTS are the sums of their bits. -/
theorem ctrlAndIntstsReadTheirFields : Obligations.CtrlAndIntstsReadTheirFields := by
  intro s
  refine ⟨⟨ctrlValue s.par s.b, rfl, ?_⟩, intstsValue s.b, rfl, intstsValue_toNat s.b⟩
  simp only [ctrlValue_toNat, mul_unitEnable_toNat, hasRct_iff, hasVn_iff]

/-- Settles O19: each row answers its field, and those narrower than a word are zero-extended. -/
theorem plainRegistersReadTheirValue : Obligations.PlainRegistersReadTheirValue := by
  intro s
  simp only [BitVec.ofNat_toNat]
  exact ⟨rfl, rfl, rfl, rfl, rfl, rfl, rfl, rfl, rfl⟩

theorem blockWord_ofNat (v : Block) {k : Nat} (hk : k < 8) : blockWord v (BitVec.ofNat 3 k) = v[k] := by
  simp only [blockWord, BitVec.toNat_ofNat, Nat.mod_eq_of_lt hk]

theorem windowSlot_ofNat (v : Window) {i : Nat} (hi : i < 32) :
    windowSlot v (BitVec.ofNat 5 i) = v[i] := by
  simp only [windowSlot, BitVec.toNat_ofNat, Nat.mod_eq_of_lt hi]

/-- Settles O20: the index of the row is the index of the element it answers. -/
theorem outAndWinReadTheirElement : Obligations.OutAndWinReadTheirElement := by
  intro s
  refine ⟨fun k hk => ?_, fun i hi => ?_⟩
  · rw [← blockWord_ofNat s.b.out hk]
    rfl
  · rw [← windowSlot_ofNat s.b.win hi, BitVec.ofNat_toNat]
    rfl

end Sys2Proof.Machine
end

section
/-! The write rows (45_register_access.md R202 to R206, R224 to R232), and irq_out after those of CTRL
and INTSTS (60_exceptions.md R243, R244). -/

namespace Sys2Proof.Machine

/-- Settles O8: NOP is ignored, as a command word and as the write of CMD that decodes to it. -/
theorem nopChangesNothing : Obligations.NopChangesNothing := fun s =>
  ⟨rfl, exec_wrCmd_of_decodeOpcode (o := .nop) (by decide) s⟩

theorem issue_of_notInit {b : Bcsh} (hidle : b.state = .idle) (hd : b.initDone = false)
    (f : Bcsh → Bcsh) : b.issue true f = b.cmdError .notInit := by
  rcases issue_cases true f b with ⟨hbusy, -⟩ | ⟨-, -, -, e⟩ | ⟨-, hinit, -⟩
  · exact absurd hidle hbusy
  · exact e
  · simp [hd] at hinit

/-- The extracts and the harvest need initialization (45_register_access.md R201). -/
theorem exec_opcodeInstr_of_notInit {s : State} (hidle : s.b.state = .idle)
    (hd : s.b.initDone = false) {o : Opcode}
    (ho : o = .extractBit ∨ o = .extractWord ∨ o = .harvest) :
    exec (opcodeInstr o) s = .next (s.answer .done (s.b.cmdError .notInit)) := by
  have rejected (f : Bcsh → Bcsh) :
      s.answerWrite (Bcsh.issue true f) = s.answer .done (s.b.cmdError .notInit) := by
    rw [State.answerWrite, issue_of_notInit hidle hd]
  rcases ho with rfl | rfl | rfl <;> exact congrArg _ (rejected _)

/-- Settles O11: each of the six instructions is one of those three commands. -/
theorem extractAndHarvestBeforeInitAreRejected :
    Obligations.ExtractAndHarvestBeforeInitAreRejected := by
  intro s i hidle hd hi
  obtain ⟨o, ho, hexec⟩ : ∃ o, (o = .extractBit ∨ o = .extractWord ∨ o = .harvest) ∧
      exec i s = exec (opcodeInstr o) s := by
    simp only [List.mem_cons, List.not_mem_nil, or_false] at hi
    rcases hi with rfl | rfl | rfl | rfl | rfl | rfl
    · exact ⟨.extractBit, .inl rfl, rfl⟩
    · exact ⟨.extractWord, .inr (.inl rfl), rfl⟩
    · exact ⟨.harvest, .inr (.inr rfl), rfl⟩
    · exact ⟨.extractBit, .inl rfl, exec_wrCmd_of_decodeOpcode (by decide) s⟩
    · exact ⟨.extractWord, .inr (.inl rfl), exec_wrCmd_of_decodeOpcode (by decide) s⟩
    · exact ⟨.harvest, .inr (.inr rfl), exec_wrCmd_of_decodeOpcode (by decide) s⟩
  rw [hexec, exec_opcodeInstr_of_notInit hidle hd ho]
  rfl

theorem exec_wrCtrl (w : Word) (s : State) :
    exec (.wrCtrl w) s = .next (s.answer .done (ctrlWrite s.par w s.b)) := rfl

theorem exec_wrIntsts (w : Word) (s : State) :
    exec (.wrIntsts w) s = .next (s.answer .done (s.b.clearFlags w)) := rfl

/-- Settles O21: the units exist as P_COND says, and the enable of an absent one stays 0. -/
theorem ctrlWriteSetsTheEnables : Obligations.CtrlWriteSetsTheEnables := by
  intro s w
  have hvn : (s.par.hasVn && w.getLsbD 4) =
      if s.par.cond = .vn ∨ s.par.cond = .vnRct then w.getLsbD 4 else false := by
    simp only [← hasVn_iff, Bool.if_false_right, Bool.decide_eq_true]
  have hrct : (s.par.hasRct && w.getLsbD 5) =
      if s.par.cond = .rct ∨ s.par.cond = .vnRct then w.getLsbD 5 else false := by
    simp only [← hasRct_iff, Bool.if_false_right, Bool.decide_eq_true]
  have hclear : (s.par.hasRct && !w.getLsbD 5) = true ↔
      (s.par.cond = .rct ∨ s.par.cond = .vnRct) ∧ w.getLsbD 5 = false := by
    rw [Bool.and_eq_true, hasRct_iff, Bool.not_eq_true']
  rw [exec_wrCtrl, ctrlWrite, hvn, hrct]
  simp only [hclear]
  rfl

/-- A flag written with 1 falls, one written with 0 stays. -/
theorem and_not_eq_ite (f bit : Bool) : (f && !bit) = if bit = true then false else f := by
  cases bit <;> simp

/-- The band registers take the low 12 bits of the word. -/
theorem sampleField_eq_ofNat (w : Word) : sampleField w = BitVec.ofNat 12 (w.toNat % 4096) := by
  apply BitVec.eq_of_toNat_eq
  simp [sampleField]

/-- Settles O22: INTSTS by each flag and its bit, the band registers by the field they take. -/
theorem intstsAndBandWrites : Obligations.IntstsAndBandWrites := by
  intro s w
  simp only [← and_not_eq_ite, ← sampleField_eq_ofNat]
  exact ⟨rfl, rfl, rfl⟩

/-- Settles O23: each of the nine rows is answered as ignored. -/
theorem readOnlyRegistersIgnoreWrites : Obligations.ReadOnlyRegistersIgnoreWrites := by
  intro s w k i x hx
  simp only [List.mem_cons, List.not_mem_nil, or_false] at hx
  rcases hx with rfl | rfl | rfl | rfl | rfl | rfl | rfl | rfl | rfl <;> rfl

/-- irq_out is 1 iff some flag is 1 whose enable is 1 (10_state.md R44). -/
theorem irqOut_iff (b : Bcsh) : b.irqOut = true ↔
    (b.doneIf = true ∧ b.doneIe = true) ∨ (b.errIf = true ∧ b.errIe = true) ∨
      (b.hlthIf = true ∧ b.hlthIe = true) ∨ (b.aesIf = true ∧ b.aesIe = true) := by
  simp only [Bcsh.irqOut, Bool.or_eq_true, Bool.and_eq_true, or_assoc]

/-- Settles O56: a write of CTRL replaces the enables and keeps the flags; one of INTSTS keeps the
enables, and those flags whose bit it leaves 0. -/
theorem irqOutFollowsFlagsAndEnables : Obligations.IrqOutFollowsFlagsAndEnables := by
  intro s w
  refine ⟨⟨_, exec_wrCtrl w s, ?_⟩, _, exec_wrIntsts w s, ?_⟩
  · simp only [irqOut_iff, answer_b, ctrlWrite_doneIf, ctrlWrite_errIf, ctrlWrite_hlthIf,
      ctrlWrite_aesIf, ctrlWrite_doneIe, ctrlWrite_errIe, ctrlWrite_hlthIe, ctrlWrite_aesIe]
  · simp only [irqOut_iff, answer_b, clearFlags_doneIf, clearFlags_errIf, clearFlags_hlthIf,
      clearFlags_aesIf, clearFlags_doneIe, clearFlags_errIe, clearFlags_hlthIe, clearFlags_aesIe,
      Bool.and_eq_true, Bool.not_eq_true', and_assoc]

end Sys2Proof.Machine
end

section
/-! The values the reset leaves (70_reset_and_hazards.md R271, R272). -/

namespace Sys2Proof.Machine

/-- No interrupt line of BCSH is up: every flag and every enable is 0. -/
theorem reset_irqOut (p : Params) : (Bcsh.reset p).irqOut = false := rfl

/-- IDLE has code 0, and every other field of STATUS is 0. -/
theorem reset_statusValue (p : Params) : statusValue (Bcsh.reset p) = 0#32 := by
  apply BitVec.eq_of_toNat_eq
  rw [statusValue_toNat, busy_toNat]
  rfl

/-- Every enable is 0, so CTRL reads 0 whichever conditioner units exist. -/
theorem reset_ctrlValue (p : Params) : ctrlValue p (Bcsh.reset p) = 0#32 := by
  apply BitVec.eq_of_toNat_eq
  rw [ctrlValue_toNat]
  simp [Bcsh.reset]

theorem reset_intstsValue (p : Params) : intstsValue (Bcsh.reset p) = 0#32 := by
  apply BitVec.eq_of_toNat_eq
  rw [intstsValue_toNat]
  rfl

theorem reset_blockWord (p : Params) (k : BitVec 3) : blockWord (Bcsh.reset p).out k = 0#32 :=
  Vector.getElem_replicate _

theorem reset_windowSlot (p : Params) (i : BitVec 5) : windowSlot (Bcsh.reset p).win i = 0#12 :=
  Vector.getElem_replicate _

/-- The lower bound is at most the centre, so it fits the register; the difference stops at 0. -/
theorem reset_bandLo_toNat (p : Params) :
    (Bcsh.reset p).bandLo.toNat = p.bandCenter.toNat - p.bandTol.toNat :=
  Nat.mod_eq_of_lt (Nat.lt_of_le_of_lt (Nat.sub_le _ _) p.bandCenter.isLt)

/-- The upper bound is clamped to the largest sample, so it fits the register. -/
theorem reset_bandHi_toNat (p : Params) :
    (Bcsh.reset p).bandHi.toNat = min 4095 (p.bandCenter.toNat + p.bandTol.toNat) :=
  Nat.mod_eq_of_lt (Nat.lt_of_le_of_lt (Nat.min_le_left _ _) (by decide))

theorem takeEvent_reset (s : State) : takeEvent .reset s = .next s.assertReset := rfl

/-- A read row answers its value and changes nothing else (45_register_access.md R200). -/
theorem next_answerRead_of_eq {w v : Word} (h : w = v) (s : State) :
    (.next (s.answerRead w) : Host.Outcome State Fault Refusal) =
      .next { s with resp := .data v } := by
  rw [h]
  rfl

/-- The registers that are one field each read 0 after the reset. -/
theorem exec_plainRead_assertReset (s : State) {i : Instr}
    (hi : i ∈ [Instr.rdResult, .rdSeed, .rdSum, .rdCursor, .rdLasts, .rdRejcnt]) :
    exec i s.assertReset = .next { s.assertReset with resp := .data 0x00000000#32 } := by
  obtain ⟨-, hresult, hseed, hsum, hcursor, -, -, hlasts, hrejcnt⟩ :=
    plainRegistersReadTheirValue s.assertReset
  simp only [List.mem_cons, List.not_mem_nil, or_false] at hi
  rcases hi with rfl | rfl | rfl | rfl | rfl | rfl
  · exact hresult
  · exact hseed
  · exact hsum
  · exact hcursor
  · exact hlasts
  · exact hrejcnt

/-- Settles O57: the read rows by the values of `Bcsh.reset`, the band by its two numbers; the other
fields, the accelerator and the environment stand in `State.assertReset` itself. -/
theorem resetLeavesTheStatedValues : Obligations.ResetLeavesTheStatedValues := by
  intro s
  exact ⟨s.assertReset, takeEvent_reset s,
    next_answerRead_of_eq (reset_statusValue s.par) _,
    next_answerRead_of_eq (reset_ctrlValue s.par) _,
    next_answerRead_of_eq (reset_intstsValue s.par) _,
    fun _ hi => exec_plainRead_assertReset s hi,
    fun k => next_answerRead_of_eq (reset_blockWord s.par k) _,
    fun i => next_answerRead_of_eq (congrArg sampleValue (reset_windowSlot s.par i)) _,
    reset_bandLo_toNat s.par, reset_bandHi_toNat s.par,
    rfl, rfl, rfl, rfl, rfl, rfl, rfl, rfl, rfl, rfl, reset_irqOut s.par, rfl, rfl, rfl⟩

end Sys2Proof.Machine
end
